-- ==== Sys2Proof/Word.lean ====
section
/-! DEFINITION. The word types of the TBH-624: bytes of the control port, coefficients, samples, serials and stamps. -/

namespace Sys2Proof

/-- One byte of a control-port frame (R182). -/
abbrev Byte := BitVec 8

/-- A gain coefficient 0..65535, 16384 standing for unity (introduction, 4.5). -/
abbrev Coeff := BitVec 16

/-- A 24-bit two's-complement audio sample as a seat line carries it (introduction, 4.6). -/
abbrev Sample := BitVec 24

/-- A unit serial (R44). -/
abbrev Serial := BitVec 32

/-- A stamp (R1). -/
abbrev Stamp := BitVec 40

end Sys2Proof
end

