-- ==== Sys2Proof/Config.lean ====
section
/-! DEFINITION. What the part fixes (capacities, times, the NOM table) and the free values: constants without a body that
stand for what the manual leaves open. -/

namespace Sys2Proof.Config

/-- Places of the reply queue (R191). -/
def replyPlaces : Nat := 8
/-- Places of the notice queue (R192). -/
def noticePlaces : Nat := 56
/-- Entries of the request entry pool (R80). -/
def requestEntries : Nat := 96
/-- Largest pending pulse count (R197). -/
def pulseMax : Nat := 64
/-- Largest loss count (R192). -/
def lossMax : Nat := 255
/-- Largest payload length of a frame (R182). -/
def payloadMax : Nat := 512
/-- Report bytes carried by one part of a report (R189). -/
def partBytes : Nat := 509
/-- Audio frames in one second (introduction, 4.6). -/
def framesPerSecond : Nat := 48000
/-- Audio frames in one millisecond (R25: K is the fade time in ms × 48). -/
def framesPerMs : Nat := 48
/-- Audio frames of the 1.5 s wake time (R43, R50). -/
def wakeFrames : Nat := 72000
/-- Audio frames of the 2 s DENIED flash (R69). -/
def flashFrames : Nat := 96000
/-- Largest talk total (R123). -/
def talkTotalMax : Nat := 16777215
/-- Largest speech seconds of an entry (R115). -/
def speechSecondsMax : Nat := 65535
/-- Largest clip count (R176). -/
def clipMax : Nat := 65535
/-- Largest absence count in seconds (R199). -/
def absenceMax : Nat := 65535
/-- Unity gain (introduction, 4.5). -/
def unity : Nat := 16384
/-- The largest and smallest sample (introduction, 4.6). -/
def sampleMax : Int := 8388607
/-- The smallest sample (introduction, 4.6). -/
def sampleMin : Int := -8388608

/-- Table 8-1: a_0 to a_48 (R164). -/
def nomTable : List Nat :=
  [16384, 16384, 11585, 9459, 8192, 7327, 6689, 6193, 5793, 5461, 5181, 4940, 4730] ++
  [4544, 4379, 4230, 4096, 3974, 3862, 3759, 3664, 3575, 3493, 3416, 3344, 3277] ++
  [3213, 3153, 3096, 3042, 2991, 2943, 2896, 2852, 2810, 2769, 2731, 2694, 2658] ++
  [2624, 2591, 2559, 2528, 2499, 2470, 2442, 2416, 2390, 2365]

/-- FREE VALUE (log 16): the stamp issued after the 40-bit count has reached its last value; R1 does not say. -/
opaque stampAfterLast : Stamp

/-- FREE VALUE (log 17): whether a report rounds a part-second up; R203 says only "seconds left". -/
opaque roundsSecondsUp : Bool

/-- FREE VALUE (log 17): whether LINE_GET rounds a part-millisecond up; Table 9-9 says only "in ms". -/
opaque roundsMsUp : Bool

/-- FREE VALUE (log 18): the one-byte count sent for a list of more than 255 seats; Table 9-6 and Table 9-10 give the
count one byte and the holder set may hold 256 chairs. -/
opaque oversizeCount : Nat → Byte

end Sys2Proof.Config
end

