-- ==== Sys2Proof/Syntax.lean ====
section
/-! DEFINITION. The commands and events of spec/opcode_table.json, one constructor a row, with the operands each carries. -/

namespace Sys2Proof

/-- One conversion of each of the five wall inputs (R5): a reading 0..255 for W1 to W5. -/
structure Readings where
  w1 : Byte
  w2 : Byte
  w3 : Byte
  w4 : Byte
  w5 : Byte
deriving DecidableEq, Repr

/-- A desk's output selection (R132, R140). -/
inductive OutputSelect where
  | a
  | b
deriving DecidableEq, Repr

/-- What one census slot reads from a unit that answers (R44, step 3): its serial, the classification result 0..1023 and
its forward sense (true: a unit is connected beyond it). -/
structure UnitAnswer where
  serial : Serial
  result : BitVec 10
  sense : Bool
deriving DecidableEq, Repr

/-- A step of the refresh of the lines (R75): the position that the refresh of each line has reached when the step ends, 64
where the list has none for the line (log 40), and the seats whose unit does not answer the record sent to it (R53). -/
structure RefreshStep where
  reached : List Nat
  silent : List Nat
deriving DecidableEq, Repr

/-- The rows of spec/opcode_table.json. A row that is a command frame carries the frame's tag and payload bytes as they
arrived (R182), so that every length and every field value can be sent; an event carries what its source delivers. -/
inductive Instr where
  -- Control port and settings store
  | statusGet (tag : Byte) (payload : List Byte)
  /-- `walls` is what the wall inputs read at the measurement of the start that follows (R20). -/
  | restart (tag : Byte) (payload : List Byte) (walls : Readings)
  | noticeMask (tag : Byte) (payload : List Byte)
  | attnSet (tag : Byte) (payload : List Byte)
  | supervisionSet (tag : Byte) (payload : List Byte)
  | settingsSave (tag : Byte) (payload : List Byte)
  | profileSet (tag : Byte) (payload : List Byte)
  | factoryDefaults (tag : Byte) (payload : List Byte)
  -- Hall
  | wallPolicy (tag : Byte) (payload : List Byte)
  | wallSet (tag : Byte) (payload : List Byte)
  | segmentPrivacy (tag : Byte) (payload : List Byte)
  | fadeTime (tag : Byte) (payload : List Byte)
  | roomTemplate (tag : Byte) (payload : List Byte)
  | hallGet (tag : Byte) (payload : List Byte)
  -- Lines and seats
  | linePower (tag : Byte) (payload : List Byte)
  | lineWake (tag : Byte) (payload : List Byte)
  | lineStandby (tag : Byte) (payload : List Byte)
  | lineOff (tag : Byte) (payload : List Byte)
  | lineCensus (tag : Byte) (payload : List Byte)
  | lineGet (tag : Byte) (payload : List Byte)
  | seatPlace (tag : Byte) (payload : List Byte)
  | seatTrim (tag : Byte) (payload : List Byte)
  | seatGet (tag : Byte) (payload : List Byte)
  | seatText (tag : Byte) (payload : List Byte)
  | lineIndicators (tag : Byte) (payload : List Byte)
  -- Floor
  | micOpen (tag : Byte) (payload : List Byte)
  | micClose (tag : Byte) (payload : List Byte)
  | roomCloseAll (tag : Byte) (payload : List Byte)
  | requestAdd (tag : Byte) (payload : List Byte)
  | requestRemove (tag : Byte) (payload : List Byte)
  | grantNext (tag : Byte) (payload : List Byte)
  | queueClear (tag : Byte) (payload : List Byte)
  | roomGet (tag : Byte) (payload : List Byte)
  | speechExtend (tag : Byte) (payload : List Byte)
  | talkTotalClear (tag : Byte) (payload : List Byte)
  -- Languages and mix
  | channelSetup (tag : Byte) (payload : List Byte)
  | boothSetup (tag : Byte) (payload : List Byte)
  | deskAssign (tag : Byte) (payload : List Byte)
  | languageGet (tag : Byte) (payload : List Byte)
  | monitorRoute (tag : Byte) (payload : List Byte)
  | clipGet (tag : Byte) (payload : List Byte)
  -- Frames and transfers
  | unknownKind (kind tag : Byte) (payload : List Byte)
  /-- A complete frame whose check value differs from the CRC-16 of its bytes (R185). -/
  | frameCheckFailed (kind tag : Byte) (payload : List Byte) (check : BitVec 16)
  /-- A frame whose payload length field exceeds 512 (R184). -/
  | frameLengthExcess (length : BitVec 16)
  | transferStart
  | outboundFrameSent
  /-- `received` is the partial inbound frame of the transfer, from its sync byte on; empty when no sync byte arrived. -/
  | chipSelectRelease (received : List Byte)
  | attnPulse
  | hostAbsenceExpiry
  -- Power and reset
  | powerUp (walls : Readings)
  | powerLoss
  | resetAssert
  | resetRelease (walls : Readings)
  -- Timed events of the blocks
  | wallMeasurement (walls : Readings)
  | settleExpiry (wall : Nat)
  /-- `samples` holds the input sample of seats 0 to 255 in order (R160). -/
  | audioFrame (samples : List Sample)
  | remap
  | fadeComplete
  | remapTimerCheck
  | speechSecond (seat : Nat)
  | indicatorRefresh (part : RefreshStep)
  | silentUnit (line : Nat)
  | overcurrent (line : Nat)
  | standbyCurrentMeasurement (line : Nat) (estimate : Nat)
  | wakeEnd (line : Nat)
  /-- `answer` is none when the unit that the forward sense shows does not answer in its slot (R45). -/
  | censusSlot (line : Nat) (answer : Option UnitAnswer)
  | censusComplete (line : Nat)
  | flashEnd (seat : Nat)
  /-- `good` is whether the image read back passes its CRC-32 check (R210). -/
  | saveWriteComplete (good : Bool)
  -- Seat events
  | talk (seat : Nat)
  | priorityDown (seat : Nat)
  | priorityUp (seat : Nat)
  | outputSelect (seat : Nat) (output : OutputSelect)
  | inputSelect (seat : Nat) (value : Nat)
  | listenSelect (seat : Nat) (value : Nat)
deriving DecidableEq, Repr

end Sys2Proof
end

