-- ==== Sys2Proof/Machine/Records.lean ====
section
/-! DEFINITION. The records of the seven blocks and the values their fields take, by the names of the manual. Enumerations
list their values in the order of Table 9-3, which is the order of their codes. -/

namespace Sys2Proof.Machine

/-! ### Partition unit (chapters 1 and 2) -/

/-- PUBLIC or PRIVATE (R2). -/
inductive Privacy where | open_ | closed_
deriving DecidableEq, Repr

/-- A wall's policy (Table 1-2). -/
inductive Policy where | follow | held
deriving DecidableEq, Repr

/-- A join of a wall (Table 1-2). -/
inductive Join where | split | joined
deriving DecidableEq, Repr

/-- A settled state or candidate of a wall (Table 1-3). -/
inductive Sensor where | opened | closed | fault
deriving DecidableEq, Repr

/-- The kind of a wall fault (Table 1-3). -/
inductive WireFault where | short | openCircuit
deriving DecidableEq, Repr

/-- A room's floor mode (Table 1-1). -/
inductive FloorMode where | direct | queued | override
deriving DecidableEq, Repr

/-- What happens at speech expiry (Table 1-1). -/
inductive ExpiryAction where | close | notify
deriving DecidableEq, Repr

/-- What happens when priority begins (Table 1-1). -/
inductive PriorityAction where | muteOnly | closeAll
deriving DecidableEq, Repr

/-- A room template (Table 1-1). The numeric ranges are kept by the clamps of R3. -/
structure Template where
  mode : FloorMode
  limit : Nat
  nom : Bool
  gain : Coeff
  speechLimit : Nat
  warningLead : Nat
  expiryAction : ExpiryAction
  priorityAction : PriorityAction
  autoAdvance : Bool
  delegateClose : Bool
  autoFloorGain : Coeff
deriving DecidableEq, Repr

/-- A segment record (R2). -/
structure Segment where
  privacy : Privacy
  template : Template
deriving DecidableEq, Repr

/-- The stored settings of a wall (Table 1-2). -/
structure WallSettings where
  policy : Policy
  held : Join
  settleTime : Nat
deriving DecidableEq, Repr

/-- A counting settle timer (R6). -/
structure SettleTimer where
  candidate : Sensor
  count : Nat
deriving DecidableEq, Repr

/-- A wall record (Table 1-2). `timer` is none while the settle timer is idle. `expired` is the model's own mark: the last
measurement brought the settle to its expiry and SETTLE_EXPIRY has not been taken yet (log 4). -/
structure Wall where
  set : WallSettings
  lastReading : Byte
  settled : Sensor
  faultKind : Option WireFault
  timer : Option SettleTimer
  expired : Bool
  requested : Join
  target : Join
  current : Join
  conflict : Bool
deriving DecidableEq, Repr

/-- A room's fade direction (R12). -/
inductive Direction where | steady | up | down
deriving DecidableEq, Repr

/-- What the partition sequencer holds of a room of the map (R12): its extent, fade position and direction. Its state,
privacy and settings in force are derived (Flags.lean). -/
structure Room where
  lead : Nat
  last : Nat
  position : Nat
  direction : Direction
deriving DecidableEq, Repr

/-- The partition sequencer's state (R23). -/
inductive SeqState where | idle | fadeOut | fadeIn
deriving DecidableEq, Repr

/-- The partition unit's records (R2, R4, R12, R23, R24). `remapDue` and `fadeDone` are the model's own marks: the last
audio frame found the remap condition (R33), or found no room moving (R37, R31), and REMAP or FADE_COMPLETE has not been
taken yet (log 4). -/
structure Ptu where
  walls : List Wall
  segments : List Segment
  fadeTime : Nat
  rooms : List Room
  seq : SeqState
  targets : List Join
  affected : List Nat
  k : Nat
  remapDue : Bool
  fadeDone : Bool
deriving DecidableEq, Repr

/-! ### Seat line controllers (chapters 3 and 4) -/

/-- A unit's kind (R44). -/
inductive Kind where | delegate | chair | desk | unknown
deriving DecidableEq, Repr

/-- The unit that a census found at a position (R44, R59). -/
structure UnitInfo where
  serial : Serial
  kind : Kind
deriving DecidableEq, Repr

/-- A line's power policy (Table 3-1). -/
inductive PowerPolicy where | atStart | onCommand
deriving DecidableEq, Repr

/-- The stored settings of a line (Table 3-1). -/
structure LineSettings where
  powerPolicy : PowerPolicy
  wakeOnPress : Bool
  autoRelight : Bool
deriving DecidableEq, Repr

/-- The origin of a wake (Table 3-1). -/
inductive WakeOrigin where | start | resume
deriving DecidableEq, Repr

/-- The cause of a line fault (Table 3-1). -/
inductive LineFault where | overcurrent | noResponse
deriving DecidableEq, Repr

/-- A census in progress (R44): the units found so far in position order, the forward sense read last (none before
position 1 has answered), and each position's unit as it stood just before the census. The census position is one more
than the number found. -/
structure Census where
  found : List UnitInfo
  sense : Option Bool
  before : List (Option UnitInfo)
deriving DecidableEq, Repr

/-- A line's state with the fields Table 3-1 gives as present in that state alone. The wake time remaining is held in
audio frames (log 7). -/
inductive LinePhase where
  | off
  | waking (origin : WakeOrigin) (remaining : Nat)
  | census (c : Census)
  | active
  | standby
  | fault (cause : LineFault) (position : Option Nat)
deriving DecidableEq, Repr

/-- A line record (Table 3-1). `refresh` is the position that a refresh under way has reached, none while none is (R75). -/
structure Line where
  set : LineSettings
  phase : LinePhase
  unitCount : Nat
  indicators : Bool
  presenceChanged : Bool
  overlength : Bool
  refresh : Option Nat
deriving DecidableEq, Repr

/-- A desk entry (R132). -/
structure DeskEntry where
  live : Bool
  output : OutputSelect
  input : Nat
deriving DecidableEq, Repr

/-- The mic ring (Table 4-1). -/
inductive Ring where | off | on | muted | warn
deriving DecidableEq, Repr

/-- The request lamp (Table 4-1). -/
inductive RequestLamp where | off | on | denied
deriving DecidableEq, Repr

/-- What a unit shows of its indicator record (Table 4-1). The loudspeaker field, which the SLC applies to audio (R73), is no
part of what is sent (log 54). -/
structure Lamps where
  ring : Ring
  request : RequestLamp
  live : Bool
  busy : Bool
  parked : Bool
  bActive : Bool
  listenEcho : Nat
  inputEcho : Nat
  text : Option (List Byte)
deriving DecidableEq, Repr

/-- The stored settings of a seat (R59). -/
structure SeatSettings where
  placement : Option Nat
  trim : Coeff
  booth : Option Nat
deriving DecidableEq, Repr

/-- A seat record (R59) with its DENIED flash (R69, remaining time in audio frames), its desk entry (R132, which counts
while the seat names a booth), and the record last sent down the line to its unit (R75; the model's own field, log 27). -/
structure Seat where
  unit : Option UnitInfo
  set : SeatSettings
  listen : Nat
  text : Option (List Byte)
  talkTotal : Nat
  miss : Nat
  flash : Option Nat
  desk : DeskEntry
  sent : Option Lamps
deriving DecidableEq, Repr

/-- The seat line controllers' records: 4 lines and 256 seats. -/
structure Slc where
  lines : List Line
  seats : List Seat
deriving DecidableEq, Repr

/-! ### Floor controller (chapters 5 and 6) -/

/-- A speaker-list entry (R79, R115). `secondDue` is the model's own mark: the audio frame that completes the running
second has come and SPEECH_SECOND has not been taken yet (log 4). `oldLimit` is the speech limit of the room that held the
entry before a remap moved it, until the timer check of R122. -/
structure Speaker where
  seat : Nat
  kind : Kind
  stamp : Stamp
  seconds : Nat
  frames : Nat
  extension : Nat
  muted : Bool
  warned : Bool
  byPriority : Bool
  secondDue : Bool
  oldLimit : Option Nat
deriving DecidableEq, Repr

/-- A request's class (R80). -/
inductive RequestClass where | returned | normal
deriving DecidableEq, Repr

/-- A request entry (R80). -/
structure Request where
  seat : Nat
  cls : RequestClass
  stamp : Stamp
deriving DecidableEq, Repr

/-- The floor controller's records (R78), held for the whole hall: the open microphones by open stamp, the requests by
class and stamp, the chairs holding priority by seat number. The floor record of a room is the part of each whose seats are
placed in the room (log 10). `checksWaiting` are the new rooms of a remap that await the first audio frame after it, and
`checksDue` those whose timer check is due at the audio frame under way (R122). -/
structure Flc where
  speakers : List Speaker
  queue : List Request
  holders : List Nat
  checksWaiting : List Nat
  checksDue : List Nat
deriving DecidableEq, Repr

/-! ### Language router (chapter 7) -/

/-- A language tag: three letters (Table 7-1). -/
structure LangTag where
  c1 : Byte
  c2 : Byte
  c3 : Byte
deriving DecidableEq, Repr

/-- The stored fields of a channel record (Table 7-1). The others are derived (Flags.lean). -/
structure Channel where
  enabled : Bool
  tag : LangTag
  home : Nat
deriving DecidableEq, Repr

/-- A booth's interlock mode (R131). -/
inductive Interlock where | refuse | takeover
deriving DecidableEq, Repr

/-- The stored fields of a booth record (R131); a channel of 0 is none. -/
structure Booth where
  enabled : Bool
  home : Nat
  a : Nat
  b : Nat
  interlock : Interlock
deriving DecidableEq, Repr

/-- A monitor route (R148). -/
inductive Route where
  | none
  | floor (segment : Nat)
  | channel (number : Nat)
deriving DecidableEq, Repr

/-- A channel's role (R129); a SHADOW names its primary. -/
inductive Role where
  | primary
  | shadow (of : Nat)
  | dormant
deriving DecidableEq, Repr

/-- A channel's output mode (R130). -/
inductive OutputMode where | interpreted | autoFloor | mirror | silent
deriving DecidableEq, Repr

/-- The language router's records: 24 channels, 16 booths, 2 monitor routes. -/
structure Lgr where
  channels : List Channel
  booths : List Booth
  monitors : List Route
deriving DecidableEq, Repr

/-! ### Mix engine (chapter 8) -/

/-- A clip record (R158). -/
structure Clip where
  latch : Bool
  count : Nat
deriving DecidableEq, Repr

/-- A room's coefficient set and clip record (R158), named by the leading segment. -/
structure RoomMix where
  lead : Nat
  last : Nat
  nom : Bool
  gain : Coeff
  autoFloorGain : Coeff
  clip : Clip
deriving DecidableEq, Repr

/-- One sample of every audio output: 24 channel slots, 6 segment PA slots, 2 monitor slots, and the streams of the seat
lines (R73, R171, R174, R175), where none means that no stream is carried to the seat. -/
structure Audio where
  channels : List Int
  pa : List Int
  monitors : List Int
  headphones : List (Option Int)
  loudspeakers : List (Option Int)
  deskHeadphones : List (Option Int)
deriving DecidableEq, Repr

/-- The mix engine's records (R158), with the outputs computed at the last audio frame and those leaving the part now:
what is computed at one audio frame leaves in the next (R159). `begun` is the model's own mark: the rooms and timers have moved
for an audio frame whose outputs are still to be computed (R122, log 4). -/
structure Mxe where
  rooms : List RoomMix
  channels : List Clip
  computed : Audio
  leaving : Audio
  begun : Bool
deriving DecidableEq, Repr

/-! ### Settings store (chapter 10) -/

/-- A capacity profile (Table 10-1). -/
inductive Profile where | floor | balanced | language
deriving DecidableEq, Repr

/-- The cause of a start (R213). -/
inductive ResetCause where | cold | pin | command
deriving DecidableEq, Repr

/-- The store status of a start (R214). -/
inductive StoreStatus where | valid | invalid
deriving DecidableEq, Repr

/-- The result of a save (R210). -/
inductive StoreResult where | ok | writeFailed
deriving DecidableEq, Repr

/-- ATTN's mode (R195). -/
inductive AttnMode where | level | pulse
deriving DecidableEq, Repr

/-- The ATTN settings (R195). -/
structure AttnSettings where
  enable : Bool
  mode : AttnMode
  width : Nat
deriving DecidableEq, Repr

/-- Everything the settings image holds (Table 10-2). -/
structure Settings where
  pendingProfile : Profile
  walls : List WallSettings
  segments : List Segment
  fadeTime : Nat
  seats : List SeatSettings
  channels : List Channel
  booths : List Booth
  monitors : List Route
  lines : List LineSettings
  mask : Byte
  attn : AttnSettings
  period : Nat
deriving DecidableEq, Repr

/-- The settings image: its contents and the CRC-32 that follows them (R208, log 19). -/
structure Image where
  contents : Settings
  crc : BitVec 32
deriving DecidableEq, Repr

/-- The settings store's records (R206 to R209). `saving` holds the snapshot of the save in progress. -/
structure Sts where
  image : Image
  saving : Option Settings
  active : Profile
  pending : Profile
  status : StoreStatus
  cause : ResetCause
deriving DecidableEq, Repr

/-! ### Control port (chapter 9) -/

/-- The result codes (Table 9-2). -/
inductive ResultCode where
  | ok | pending | busy | badLength | unknownKind | outOfRange | notFound | wrongState | poolFull | limitReached
  | queueFull | priorityHeld | relayLoop | relayDepth | privacy | lineDown | channelTaken | homeMismatch | boothFull
  | shadow | notPlaced
deriving DecidableEq, Repr

/-- The occasion of a REGROUP_BEGUN (R40). -/
inductive Occasion where | new | revised | afterCancel | duringFadeIn
deriving DecidableEq, Repr

/-- A line's state without the fields of the state (Table 9-3). -/
inductive LineState where | off | waking | census | active | standby | fault
deriving DecidableEq, Repr

/-- The cause of a LINE_STATE (R42). -/
inductive LineCause where | start | command | press | wakeEnd | censusEnd | overcurrent | noResponse
deriving DecidableEq, Repr

/-- The origin of an open (R84). -/
inductive OpenOrigin where | press | override | priority | granted | host
deriving DecidableEq, Repr

/-- The cause of a close (Table 5-4). -/
inductive CloseCause where
  | seat | host | override | priority | limit | regroupLimit | speechTime | standby | lineFault | census | lineOff
deriving DecidableEq, Repr

/-- The cause of a removal (Table 5-4). -/
inductive RemovalCause where
  | seatCancel | host | granted | cleared | priority | mode | standby | lineFault | census | lineOff
deriving DecidableEq, Repr

/-- The cause handed by a line that leaves ACTIVE (R47). -/
inductive LeaveCause where | standby | census | lineOff | lineFault
deriving DecidableEq, Repr

/-- The cause of a DESK_OFF (R153). -/
inductive DeskOffCause where
  | seat | takeover | parked | shadow | standby | census | lineOff | lineFault | host
deriving DecidableEq, Repr

/-- The reason of a MONITOR_CLEARED (R153). -/
inductive ClearReason where | privacy | channel | host
deriving DecidableEq, Repr

/-- The reason of a FRAME_ERROR (R186). -/
inductive FrameErrorReason where | length | crc | truncated
deriving DecidableEq, Repr

/-- The source of a CLIP (R177). -/
inductive ClipSource where | room | channel
deriving DecidableEq, Repr

/-- The polarity of a saturation (R177). -/
inductive Polarity where | positive | negative
deriving DecidableEq, Repr

/-- A seat's floor status (R63). -/
inductive FloorStatus where | closed | opened | openMuted | queuedReturned | queuedNormal
deriving DecidableEq, Repr

/-- The notice classes (R194), in the order of the mask's bits. -/
inductive NoticeClass where | system | hall | line | floor | queue | timer | language | audio
deriving DecidableEq, Repr

/-- A map as a notice gives it: each room's leading and last segment (R40). -/
abbrev RoomMap := List (Nat × Nat)

/-- The notices with their fields (Table 9-6). -/
inductive Notice where
  | start (cause : ResetCause) (active pending : Profile) (status : StoreStatus)
  | frameError (reason : FrameErrorReason) (bytes length : Nat) (kind tag : Byte)
  | commandDropped (kind tag : Byte)
  | noticeLoss (count : Nat)
  | storeDone (result : StoreResult)
  | storeInvalid
  | hostAbsent (period : Nat)
  | hostBack (count : Nat)
  | wallSensor (wall : Nat) (previous new : Sensor) (reading : Byte)
  | wallFault (wall : Nat) (kind : WireFault) (reading : Byte)
  | wallConflict (wall : Nat) (flag : Bool) (left right : Privacy)
  | regroupBegun (occasion : Occasion) (current target : RoomMap) (affected : List Nat) (k : Nat)
  | regroupDone (old new : RoomMap) (newRooms : List Nat) (k : Nat)
  | regroupCancelled (current withdrawn : RoomMap) (turnedUp : List Nat)
  | lineState (line : Nat) (previous new : LineState) (cause : LineCause)
  | censusDone (line count : Nat)
  | seatFound (seat : Nat) (serial : Serial) (kind : Kind)
  | seatLost (seat : Nat) (serial : Serial)
  | seatChanged (seat : Nat) (oldSerial : Serial) (oldKind : Kind) (newSerial : Serial) (newKind : Kind)
  | lineOverlength (line : Nat)
  | wakeCancelled (line : Nat)
  | seatUnplaced (seat : Nat)
  | micOpened (seat room : Nat) (kind : Kind) (origin : OpenOrigin)
  | micClosed (seat room : Nat) (kind : Kind) (cause : CloseCause) (seconds : Nat)
  | micRefused (seat room : Nat) (reason : ResultCode)
  | priorityOn (room : Nat) (holders : List Nat)
  | priorityOff (room seat : Nat)
  | requestAdded (seat room : Nat) (cls : RequestClass) (place : Nat)
  | requestRemoved (seat room : Nat) (cause : RemovalCause)
  | requestDropped (seat room : Nat) (cause : CloseCause)
  | speechWarning (seat room seconds allowance : Nat)
  | speechExpired (seat room seconds allowance : Nat) (action : ExpiryAction)
  | deskLive (seat booth channel room : Nat)
  | deskOff (seat booth channel : Nat) (cause : DeskOffCause)
  | channelRole (channel room : Nat) (old new : Role)
  | boothParked (booth room a primary : Nat)
  | boothUnparked (booth room : Nat)
  | relayLost (seat booth channel : Nat)
  | listenReset (room count : Nat)
  | monitorCleared (monitor : Nat) (source : Route) (reason : ClearReason)
  | clip (source : ClipSource) (number : Nat) (polarity : Polarity)
deriving DecidableEq, Repr

/-- A frame without its sync byte, length and check value, which its payload determines (R182). -/
structure Frame where
  kind : Byte
  tag : Byte
  payload : List Byte
deriving DecidableEq, Repr

/-- The outbound frame chosen for the transfer in progress and not yet sent whole (R180). -/
inductive Outbound where | none | reply | notice
deriving DecidableEq, Repr

/-- A transfer in progress (R180, R184): the outbound frame, and whether an inbound frame has been taken or discarded, so
that the rest of the inbound bytes is ignored. -/
structure Transfer where
  outbound : Outbound
  inboundDone : Bool
deriving DecidableEq, Repr

/-- The phase of ATTN's pulses (R197): none in progress, asserted, or released for the same length after a pulse. -/
inductive PulsePhase where | idle | asserted | gap
deriving DecidableEq, Repr

/-- The control port's records (chapter 9). `absenceFrames` counts audio frames from the last start of the host absence
timer; the absence count and the time left are derived from it (log 7). -/
structure Ctp where
  mask : Byte
  attn : AttnSettings
  pulses : Nat
  pulse : PulsePhase
  period : Nat
  absenceFrames : Nat
  autonomous : Bool
  replies : List Frame
  notices : List Notice
  loss : Nat
  transfer : Option Transfer
deriving DecidableEq, Repr

end Sys2Proof.Machine
end

