-- ==== Sys2Proof/Machine/Operands.lean ====
section
/-! DEFINITION. The operand forms of the commands: how Table 9-3 codes each field in payload bytes, in both directions, and
the clamps that the owning rules give the numeric settings. -/

namespace Sys2Proof.Machine

/-! ### Bytes -/

/-- One byte holding n; the fields coded so are below 256 wherever the manual's ranges hold. -/
def byte (n : Nat) : Byte := BitVec.ofNat 8 n

/-- The two big-endian bytes of n (R182). -/
def bytes2 (n : Nat) : List Byte := [byte (n / 256), byte n]

/-- The three big-endian bytes of n (a talk total, Table 9-3). -/
def bytes3 (n : Nat) : List Byte := [byte (n / 65536), byte (n / 256), byte n]

/-- The four big-endian bytes of a unit serial (Table 9-3). -/
def serialBytes (w : Serial) : List Byte :=
  [byte (w.toNat / 16777216), byte (w.toNat / 65536), byte (w.toNat / 256), byte w.toNat]

/-- The five big-endian bytes of a stamp (Table 9-3). -/
def stampBytes (w : Stamp) : List Byte :=
  [byte (w.toNat / 4294967296), byte (w.toNat / 16777216), byte (w.toNat / 65536), byte (w.toNat / 256), byte w.toNat]

/-- The two big-endian bytes of a coefficient (Table 9-3). -/
def coeffBytes (w : Coeff) : List Byte := bytes2 w.toNat

/-- The number two big-endian bytes hold (R182). -/
def word2 (hi lo : Byte) : Nat := hi.toNat * 256 + lo.toNat

/-- The coefficient two big-endian bytes hold. -/
def coeffOf (hi lo : Byte) : Coeff := BitVec.ofNat 16 (word2 hi lo)

/-- A flag or yes/no field (R205): 1 for set or yes. -/
def flagByte (f : Bool) : Byte := if f then 1#8 else 0#8

/-- A one-byte count of a list of seats; a length above 255 is a free value (log 18). -/
def countByte (n : Nat) : Byte := if n < 256 then byte n else Config.oversizeCount n

/-! ### Enumerations: one byte holding the position of the value in its list (R205) -/

/-- The value a byte selects from a list of values, none outside it. -/
def pick {α : Type} (values : List α) (b : Byte) : Option α := values[b.toNat]?

/-- The code of a value: its position in its list. -/
def codeIn {α : Type} [BEq α] (values : List α) (x : α) : Byte := byte (values.idxOf x)

/-- ON or OFF (R205). -/
def onOffValues : List Bool := [false, true]
/-- Policies in code order (Table 9-3). -/
def policyValues : List Policy := [.follow, .held]
/-- Joins in code order. -/
def joinValues : List Join := [.split, .joined]
/-- Sensor states and candidates in code order. -/
def sensorValues : List Sensor := [.opened, .closed, .fault]
/-- Wall fault kinds in code order. -/
def wireFaultValues : List WireFault := [.short, .openCircuit]
/-- Privacies in code order. -/
def privacyValues : List Privacy := [.open_, .closed_]
/-- Floor modes in code order. -/
def floorModeValues : List FloorMode := [.direct, .queued, .override]
/-- Expiry actions in code order. -/
def expiryActionValues : List ExpiryAction := [.close, .notify]
/-- Priority actions in code order. -/
def priorityActionValues : List PriorityAction := [.muteOnly, .closeAll]
/-- Fade directions in code order. -/
def directionValues : List Direction := [.steady, .up, .down]
/-- Sequencer states in code order. -/
def seqStateValues : List SeqState := [.idle, .fadeOut, .fadeIn]
/-- Regroup occasions in code order. -/
def occasionValues : List Occasion := [.new, .revised, .afterCancel, .duringFadeIn]
/-- Line states in code order. -/
def lineStateValues : List LineState := [.off, .waking, .census, .active, .standby, .fault]
/-- Line state causes in code order. -/
def lineCauseValues : List LineCause := [.start, .command, .press, .wakeEnd, .censusEnd, .overcurrent, .noResponse]
/-- Wake origins in code order. -/
def wakeOriginValues : List WakeOrigin := [.start, .resume]
/-- Power policies in code order. -/
def powerPolicyValues : List PowerPolicy := [.atStart, .onCommand]
/-- Line fault causes in code order. -/
def lineFaultValues : List LineFault := [.overcurrent, .noResponse]
/-- Presence and kind in code order: ABSENT, then the kinds of a unit. -/
def presenceValues : List (Option Kind) := [none, some .delegate, some .chair, some .desk, some .unknown]
/-- Open origins in code order. -/
def openOriginValues : List OpenOrigin := [.press, .override, .priority, .granted, .host]
/-- Close causes in code order. -/
def closeCauseValues : List CloseCause :=
  [.seat, .host, .override, .priority, .limit, .regroupLimit, .speechTime, .standby, .lineFault, .census, .lineOff]
/-- Removal causes in code order. -/
def removalCauseValues : List RemovalCause :=
  [.seatCancel, .host, .granted, .cleared, .priority, .mode, .standby, .lineFault, .census, .lineOff]
/-- Request classes in code order. -/
def requestClassValues : List RequestClass := [.returned, .normal]
/-- Floor statuses in code order. -/
def floorStatusValues : List FloorStatus := [.closed, .opened, .openMuted, .queuedReturned, .queuedNormal]
/-- Output modes in code order. -/
def outputModeValues : List OutputMode := [.interpreted, .autoFloor, .mirror, .silent]
/-- Interlock modes in code order. -/
def interlockValues : List Interlock := [.refuse, .takeover]
/-- Output selects in code order. -/
def outputSelectValues : List OutputSelect := [.a, .b]
/-- Desk-off causes in code order. -/
def deskOffCauseValues : List DeskOffCause :=
  [.seat, .takeover, .parked, .shadow, .standby, .census, .lineOff, .lineFault, .host]
/-- Clear reasons in code order. -/
def clearReasonValues : List ClearReason := [.privacy, .channel, .host]
/-- Profiles in code order. -/
def profileValues : List Profile := [.floor, .balanced, .language]
/-- Reset causes in code order. -/
def resetCauseValues : List ResetCause := [.cold, .pin, .command]
/-- Store statuses in code order. -/
def storeStatusValues : List StoreStatus := [.valid, .invalid]
/-- Store results in code order. -/
def storeResultValues : List StoreResult := [.ok, .writeFailed]
/-- ATTN modes in code order. -/
def attnModeValues : List AttnMode := [.level, .pulse]
/-- Frame error reasons in code order. -/
def frameErrorReasonValues : List FrameErrorReason := [.length, .crc, .truncated]
/-- Clip sources in code order. -/
def clipSourceValues : List ClipSource := [.room, .channel]
/-- Polarities in code order. -/
def polarityValues : List Polarity := [.positive, .negative]
/-- Notice classes in the order of the mask's bits (R194) and of Table 9-5. -/
def noticeClassValues : List NoticeClass := [.system, .hall, .line, .floor, .queue, .timer, .language, .audio]

/-- The code of a role: PRIMARY, SHADOW, DORMANT (Table 9-3). -/
def roleCode : Role → Byte
  | .primary => 0#8
  | .shadow _ => 1#8
  | .dormant => 2#8

/-- The primary a role names, 0 for none. -/
def rolePrimary : Role → Nat
  | .shadow p => p
  | _ => 0

/-- The code of a route's source kind: NONE, FLOOR, CHANNEL (Table 9-3). -/
def routeKindByte : Route → Byte
  | .none => 0#8
  | .floor _ => 1#8
  | .channel _ => 2#8

/-- The number of a route's source, 0 for none. -/
def routeNumber : Route → Nat
  | .none => 0
  | .floor g => g
  | .channel c => c

/-- The result codes (Table 9-2; 13h is not used). -/
def ResultCode.byte : ResultCode → Byte
  | .ok => 0x00#8
  | .pending => 0x01#8
  | .busy => 0x02#8
  | .badLength => 0x03#8
  | .unknownKind => 0x04#8
  | .outOfRange => 0x05#8
  | .notFound => 0x06#8
  | .wrongState => 0x07#8
  | .poolFull => 0x08#8
  | .limitReached => 0x09#8
  | .queueFull => 0x0A#8
  | .priorityHeld => 0x0B#8
  | .relayLoop => 0x0C#8
  | .relayDepth => 0x0D#8
  | .privacy => 0x0E#8
  | .lineDown => 0x0F#8
  | .channelTaken => 0x10#8
  | .homeMismatch => 0x11#8
  | .boothFull => 0x12#8
  | .shadow => 0x14#8
  | .notPlaced => 0x15#8

/-! ### Field checks and clamps -/

/-- A field that names a segment holds 1..6 (1.7). -/
def isSegment (n : Nat) : Bool := 1 ≤ n && n ≤ 6

/-- A field that names a wall holds 1..5 (1.7). -/
def isWall (n : Nat) : Bool := 1 ≤ n && n ≤ 5

/-- A field that names a line holds 0..3 (R41). -/
def isLine (n : Nat) : Bool := n ≤ 3

/-- A field that names a seat holds 0..255 (3.10). -/
def isSeat (n : Nat) : Bool := n ≤ 255

/-- A number clamped into a range. -/
def clampTo (low high n : Nat) : Nat := if n < low then low else if high < n then high else n

/-- R13: a settle time of 0 is taken as 1 s and one above 30 s as 30 s. -/
def clampSettle (n : Nat) : Nat := clampTo 1 30 n

/-- R24: a fade time below 50 is taken as 50 and one above 1000 as 1000. -/
def clampFade (n : Nat) : Nat := clampTo 50 1000 n

/-- Table 1-1: 0 becomes 1; above 48 becomes 48. -/
def clampLimit (n : Nat) : Nat := clampTo 1 48 n

/-- Table 1-1: 0 is off; 1..9 becomes 10; above 3600 becomes 3600. -/
def clampSpeechLimit (n : Nat) : Nat := if n = 0 then 0 else clampTo 10 3600 n

/-- Table 1-1: above 120 becomes 120. -/
def clampWarningLead (n : Nat) : Nat := clampTo 0 120 n

/-- R120: 0 is taken as 1, and one above 600 as 600. -/
def clampExtension (n : Nat) : Nat := clampTo 1 600 n

/-- R198: a width above 7 is taken as 7. -/
def clampWidth (n : Nat) : Nat := clampTo 0 7 n

/-- R202: a period of 1 is taken as 2. -/
def clampPeriod (n : Nat) : Nat := if n = 1 then 2 else n

/-- An optional placement, booth or monitor number: 0 for none (Table 9-3). -/
def optNumber (n : Nat) : Option Nat := if n = 0 then none else some n

/-- The byte of an optional number, 0 for none. -/
def optByte (o : Option Nat) : Byte := byte (o.getD 0)

/-! ### The template bytes of ROOM_TEMPLATE -/

/-- The fourteen template bytes in the order of ROOM_TEMPLATE (Table 9-4). -/
def templateBytes (t : Template) : List Byte :=
  [codeIn floorModeValues t.mode, byte t.limit, flagByte t.nom] ++ coeffBytes t.gain ++ bytes2 t.speechLimit ++
    [byte t.warningLead, codeIn expiryActionValues t.expiryAction, codeIn priorityActionValues t.priorityAction,
      flagByte t.autoAdvance, flagByte t.delegateClose] ++ coeffBytes t.autoFloorGain

/-- The template that fourteen bytes give: none where an enumerated field holds a value outside its list (R3), numbers
clamped as Table 1-1 states. -/
def templateOf : List Byte → Option Template
  | [mode, limit, nom, r1, r0, s1, s0, lead, expiry, priority, advance, close, h1, h0] => do
    let mode ← pick floorModeValues mode
    let nom ← pick onOffValues nom
    let expiry ← pick expiryActionValues expiry
    let priority ← pick priorityActionValues priority
    let advance ← pick onOffValues advance
    let close ← pick onOffValues close
    return { mode := mode, limit := clampLimit limit.toNat, nom := nom, gain := coeffOf r1 r0,
             speechLimit := clampSpeechLimit (word2 s1 s0), warningLead := clampWarningLead lead.toNat,
             expiryAction := expiry, priorityAction := priority, autoAdvance := advance, delegateClose := close,
             autoFloorGain := coeffOf h1 h0 }
  | _ => none

/-- A tag character is one of A..Z (R133). -/
def isLetter (b : Byte) : Bool := 0x41 ≤ b.toNat && b.toNat ≤ 0x5A

/-- R72: each character outside 20h..7Eh is replaced by 3Fh. -/
def printable (b : Byte) : Byte := if 0x20 ≤ b.toNat && b.toNat ≤ 0x7E then b else 0x3F#8

end Sys2Proof.Machine
end

