-- ==== Sys2Proof/Machine/Defaults.lean ====
section
/-! DEFINITION. The factory defaults of every stored setting, and each block's records right after the cold start of a part
whose image was never written (the reset state of the model, log 1). -/

namespace Sys2Proof.Machine

/-! ### Factory defaults -/

/-- Table 1-1, column Default. -/
def factoryTemplate : Template :=
  { mode := .queued, limit := 4, nom := true, gain := 16384#16, speechLimit := 0, warningLead := 30,
    expiryAction := .close, priorityAction := .muteOnly, autoAdvance := false, delegateClose := true,
    autoFloorGain := 11585#16 }

/-- R2: PUBLIC with the default template. -/
def factorySegment : Segment := { privacy := .open_, template := factoryTemplate }

/-- Table 1-2, column Default. -/
def factoryWall : WallSettings := { policy := .follow, held := .split, settleTime := 3 }

/-- Table 3-1: AT_START, ON, ON. -/
def factoryLine : LineSettings := { powerPolicy := .atStart, wakeOnPress := true, autoRelight := true }

/-- R59: no placement, unity trim, no booth. -/
def factorySeat : SeatSettings := { placement := none, trim := 16384#16, booth := none }

/-- Table 7-1: OFF, XXX, home segment 1. -/
def factoryChannel : Channel := { enabled := false, tag := ⟨0x58#8, 0x58#8, 0x58#8⟩, home := 1 }

/-- R131: OFF, home segment 1, no channels, REFUSE. -/
def factoryBooth : Booth := { enabled := false, home := 1, a := 0, b := 0, interlock := .refuse }

/-- R195: ON, LEVEL, 0. -/
def factoryAttn : AttnSettings := { enable := true, mode := .level, width := 0 }

/-- The factory default fade time in ms (R24). -/
def factoryFadeTime : Nat := 200

/-- Every setting of Table 10-2 at its factory default. -/
def factorySettings : Settings :=
  { pendingProfile := .balanced
    walls := List.replicate 5 factoryWall
    segments := List.replicate 6 factorySegment
    fadeTime := factoryFadeTime
    seats := List.replicate 256 factorySeat
    channels := List.replicate 24 factoryChannel
    booths := List.replicate 16 factoryBooth
    monitors := List.replicate 2 Route.none
    lines := List.replicate 4 factoryLine
    mask := 0xFF#8
    attn := factoryAttn
    period := 0 }

/-! ### Fresh records -/

/-- A new desk entry (R132). -/
def freshDesk : DeskEntry := { live := false, output := .a, input := 0 }

/-- A clear clip record (R158). -/
def clearClip : Clip := { latch := false, count := 0 }

/-- A seat at start under the settings given (R64): ABSENT, no text, listen channel 0, talk total 0, flash idle. -/
def startSeat (set : SeatSettings) : Seat :=
  { unit := none, set := set, listen := 0, text := none, talkTotal := 0, miss := 0, flash := none, desk := freshDesk,
    sent := none }

/-- A line at start under the settings given, before its line start (R64). -/
def startLine (set : LineSettings) : Line :=
  { set := set, phase := .off, unitCount := 0, indicators := true, presenceChanged := false, overlength := false,
    refresh := none }

/-- Every audio output at 0 and no stream carried (R213). -/
def silentAudio : Audio :=
  { channels := List.replicate 24 0, pa := List.replicate 6 0, monitors := List.replicate 2 0,
    headphones := List.replicate 256 none, loudspeakers := List.replicate 256 none,
    deskHeadphones := List.replicate 256 none }

/-- Empty floor records (R114). -/
def emptyFlc : Flc := { speakers := [], queue := [], holders := [], checksWaiting := [], checksDue := [] }

/-! ### The blocks right after reset -/

/-- A wall whose input reads 0 at the first measurement under the factory settings (R20; reading 0 is log 1): the SHORT
band, settled at once, and SPLIT requested. -/
def resetWall : Wall :=
  { set := factoryWall, lastReading := 0#8, settled := .fault, faultKind := some .short, timer := none, expired := false,
    requested := .split, target := .split, current := .split, conflict := false }

/-- R20 and R23: six rooms, each STEADY at K. -/
def resetPtu : Ptu :=
  { walls := List.replicate 5 resetWall
    segments := List.replicate 6 factorySegment
    fadeTime := factoryFadeTime
    rooms := [1, 2, 3, 4, 5, 6].map fun g => { lead := g, last := g, position := 9600, direction := .steady }
    seq := .idle
    targets := List.replicate 5 .split
    affected := []
    k := 9600
    remapDue := false
    fadeDone := false }

/-- R64: every line under AT_START has begun its line start. -/
def resetSlc : Slc :=
  { lines := List.replicate 4 { startLine factoryLine with phase := .waking .start Config.wakeFrames }
    seats := List.replicate 256 (startSeat factorySeat) }

/-- R154 under the factory settings. -/
def resetLgr : Lgr :=
  { channels := List.replicate 24 factoryChannel, booths := List.replicate 16 factoryBooth,
    monitors := List.replicate 2 Route.none }

/-- R158: a coefficient set for each room of the initial map and clear clip records. -/
def resetMxe : Mxe :=
  { rooms := [1, 2, 3, 4, 5, 6].map fun g =>
      { lead := g, last := g, nom := true, gain := 16384#16, autoFloorGain := 11585#16, clip := clearClip }
    channels := List.replicate 24 clearClip
    computed := silentAudio
    leaving := silentAudio
    begun := false }

/-- R216, row COLD INVALID: factory defaults under BALANCED; the image was never written, and its CRC-32 of 0 does not match
(log 1). -/
def resetSts : Sts :=
  { image := { contents := factorySettings, crc := 0#32 }, saving := none, active := .balanced,
    pending := .balanced, status := .invalid, cause := .cold }

/-- R204, with the notices of the start sequence queued in the order of R214: STORE_INVALID, the LINE_STATE of each line
start, START. -/
def resetCtp : Ctp :=
  { mask := 0xFF#8, attn := factoryAttn, pulses := 0, pulse := .idle, period := 0, absenceFrames := 0,
    autonomous := false, replies := []
    notices := [.storeInvalid, .lineState 0 .off .waking .start, .lineState 1 .off .waking .start,
      .lineState 2 .off .waking .start, .lineState 3 .off .waking .start, .start .cold .balanced .balanced .invalid]
    loss := 0, transfer := none }

end Sys2Proof.Machine
end

