-- ==== Sys2Proof/Machine/State.lean ====
section
/-! DEFINITION. The state of the part, the reasons a step can stop, and the state right after reset. -/

namespace Sys2Proof.Machine

/-- Why the machine stops with a fault. Each is raised by an event whose source does not exist in the part; the commands of
the host are never among them, since the manual gives OUT_OF_RANGE for a command that names such a thing (log 24). -/
inductive Fault where
  /-- Raised by a seat event, SPEECH_SECOND or FLASH_END that names a seat above 255. Safe: there is no such seat (R58). -/
  | noSuchSeat
  /-- Raised by a line event that names a line above 3. Safe: there is no such line (R41). -/
  | noSuchLine
  /-- Raised by SETTLE_EXPIRY for a wall outside 1..5. Safe: there is no such wall (R4). -/
  | noSuchWall
deriving DecidableEq, Repr

/-- Why the model refuses a command. -/
inductive Refusal where
  /-- Raised by the arm of a command that has no meaning yet. Safe. -/
  | notModelled (mnemonic : String)
deriving DecidableEq, Repr

/-- The whole part: its seven blocks, the stamp count (R1), the power and RESET pins (R213), and the queue of commands and
events that are waiting, first in, first out (the model's own field). `started` says that the part has run since power was
applied, which decides between a cold start and a warm reset when RESET is released (R213). -/
structure State where
  ctp : Ctp
  ptu : Ptu
  slc : Slc
  flc : Flc
  lgr : Lgr
  mxe : Mxe
  sts : Sts
  stamp : Stamp
  powered : Bool
  resetLow : Bool
  started : Bool
  pending : List Instr
deriving DecidableEq, Repr

/-- Right after reset: the cold start of a part whose image was never written and whose wall inputs read 0 (R214 to R216,
log 1). `test_reset_is_cold_start` checks it against the start sequence. -/
def State.reset : State :=
  { ctp := resetCtp, ptu := resetPtu, slc := resetSlc, flc := emptyFlc, lgr := resetLgr, mxe := resetMxe, sts := resetSts,
    stamp := 0#40, powered := true, resetLow := false, started := true, pending := [] }

end Sys2Proof.Machine
end

