-- ==== Sys2Proof/Machine/Flags.lean ====
section
/-! DEFINITION. The derived state and flags of the part (introduction, 4.10): what the blocks compute from the records State
holds. Nothing here changes a state. -/

namespace Sys2Proof.Machine

/-! ### Power, pins and reading the tables -/

/-- The part runs: it has power and RESET is not held low (R213). Otherwise it is held. -/
def State.running (s : State) : Bool := s.powered && !s.resetLow

/-- The wall record of wall k, 1..5. -/
def State.wall (s : State) (k : Nat) : Wall := s.ptu.walls.getD (k - 1) resetWall

/-- The segment record of segment g, 1..6. -/
def State.segment (s : State) (g : Nat) : Segment := s.ptu.segments.getD (g - 1) factorySegment

/-- The record of line l, 0..3. -/
def State.line (s : State) (l : Nat) : Line := s.slc.lines.getD l (startLine factoryLine)

/-- The record of a seat, 0..255. -/
def State.seat (s : State) (n : Nat) : Seat := s.slc.seats.getD n (startSeat factorySeat)

/-- The record of channel c, 1..24. -/
def State.channel (s : State) (c : Nat) : Channel := s.lgr.channels.getD (c - 1) factoryChannel

/-- The record of booth b, 1..16. -/
def State.booth (s : State) (b : Nat) : Booth := s.lgr.booths.getD (b - 1) factoryBooth

/-- The route of monitor m, 1..2. -/
def State.monitor (s : State) (m : Nat) : Route := s.lgr.monitors.getD (m - 1) .none

/-- The six segments in order. -/
def segmentNumbers : List Nat := [1, 2, 3, 4, 5, 6]

/-- The four lines in order. -/
def lineNumbers : List Nat := [0, 1, 2, 3]

/-- The 256 seats in order. -/
def seatNumbers : List Nat := List.range 256

/-- The 24 channels in order. -/
def channelNumbers : List Nat := (List.range 24).map (· + 1)

/-- The 16 booths in order. -/
def boothNumbers : List Nat := (List.range 16).map (· + 1)

/-- The line a seat is on (R58). -/
def lineOfSeat (seat : Nat) : Nat := seat / 64

/-- The position of a seat on its line, 1..64 (R58). -/
def positionOfSeat (seat : Nat) : Nat := seat % 64 + 1

/-- The seats of line l in position order (R58). -/
def seatsOfLine (l : Nat) : List Nat := (List.range 64).map (64 * l + ·)

/-! ### Profiles (Table 10-1) -/

/-- The microphone pool size P of a profile. -/
def Profile.pool : Profile → Nat
  | .floor => 48
  | .balanced => 32
  | .language => 16

/-- The active channel count Nc of a profile. -/
def Profile.channels : Profile → Nat
  | .floor => 8
  | .balanced => 16
  | .language => 24

/-- P under the active profile (R82). -/
def State.pool (s : State) : Nat := s.sts.active.pool

/-- Nc under the active profile (R128). -/
def State.activeChannels (s : State) : Nat := s.sts.active.channels

/-! ### The room map (R11) -/

/-- The join of wall k in a join vector. -/
def joinAt (joins : List Join) (k : Nat) : Join := joins.getD (k - 1) .split

/-- The leading segment of the room that holds segment g: down through every JOINED wall (R11). -/
def leadOf (joins : List Join) : Nat → Nat
  | 0 => 0
  | 1 => 1
  | g + 1 => if joinAt joins g = .joined then leadOf joins g else g + 1

/-- Up from segment g through at most `fuel` JOINED walls. -/
def lastFrom (joins : List Join) : Nat → Nat → Nat
  | 0, g => g
  | fuel + 1, g => if joinAt joins g = .joined then lastFrom joins fuel (g + 1) else g

/-- The last segment of the room that holds segment g (R11). -/
def lastOf (joins : List Join) (g : Nat) : Nat := lastFrom joins (6 - g) g

/-- The leading segments of the map a join vector gives, in order. -/
def leadsOf (joins : List Join) : List Nat := segmentNumbers.filter fun g => leadOf joins g = g

/-- The map a join vector gives: each room's leading and last segment, in order (R11). -/
def mapOf (joins : List Join) : RoomMap := (leadsOf joins).map fun g => (g, lastOf joins g)

/-- The current join vector (R10). -/
def State.joins (s : State) : List Join := s.ptu.walls.map (·.current)

/-- The target vector: the effective targets of the five walls (R10). -/
def State.wallTargets (s : State) : List Join := s.ptu.walls.map (·.target)

/-- The leading segment of the room that holds segment g in the map in force. -/
def State.roomOf (s : State) (g : Nat) : Nat := leadOf s.joins g

/-- The rooms of the map in force, by leading segment, in order. -/
def State.leads (s : State) : List Nat := leadsOf s.joins

/-- The rooms of a map that another map does not have with the same segments (R28). -/
def roomsNotIn (map other : RoomMap) : List Nat := (map.filter fun r => !other.contains r).map (·.1)

/-- The fade record of the room a segment leads; a room without one counts as STEADY at K (R12). -/
def State.room (s : State) (lead : Nat) : Room :=
  (s.ptu.rooms.find? fun r => r.lead == lead).getD
    { lead := lead, last := lastOf s.joins lead, position := s.ptu.k, direction := .steady }

/-- REGROUPING while the direction is DOWN or UP, STEADY otherwise (R26). -/
def Room.regrouping (r : Room) : Bool := r.direction != .steady

/-- The fade level floor(16384 × position / K) (R25). -/
def fadeLevel (position k : Nat) : Nat := Config.unity * position / k

/-- A segment's privacy (R2). -/
def State.privacy (s : State) (g : Nat) : Privacy := (s.segment g).privacy

/-- The settings in force of the room a segment leads: its template, the delegate limit clamped to P (R12). -/
def State.settings (s : State) (lead : Nat) : Template :=
  let t := (s.segment lead).template
  { t with limit := min t.limit s.pool }

/-- The wall record's candidate field: the timer's while it counts, the settled state while it is idle (R6). -/
def Wall.candidate (w : Wall) : Sensor := (w.timer.map (·.candidate)).getD w.settled

/-! ### Lines and seats -/

/-- A line's state as notices and reports give it (Table 9-3). -/
def LinePhase.state : LinePhase → LineState
  | .off => .off
  | .waking _ _ => .waking
  | .census _ => .census
  | .active => .active
  | .standby => .standby
  | .fault _ _ => .fault

/-- Whether a line is ACTIVE. -/
def State.lineActive (s : State) (l : Nat) : Bool := (s.line l).phase.state == .active

/-- Whether a seat's line is ACTIVE. -/
def State.seatActive (s : State) (n : Nat) : Bool := s.lineActive (lineOfSeat n)

/-- The kind of the unit at a seat, none while ABSENT (R59). -/
def Seat.kind (t : Seat) : Option Kind := t.unit.map (·.kind)

/-- The placement segment of a seat. -/
def State.placement (s : State) (n : Nat) : Option Nat := (s.seat n).set.placement

/-- The room of a seat: the room of its placement segment, none without a placement (R11, R59). -/
def State.seatRoom (s : State) (n : Nat) : Option Nat := (s.placement n).map s.roomOf

/-- The room of a seat as notices code it, 0 for none (Table 9-3). -/
def State.seatRoomCode (s : State) (n : Nat) : Nat := (s.seatRoom n).getD 0

/-- The power a line's output carries (3.1, R213): none, full or standby level. -/
inductive LinePower where | none | full | standbyLevel
deriving DecidableEq, Repr

/-- The output of a line follows its state, and is off while the part is held (3.1, R213). -/
def State.linePower (s : State) (l : Nat) : LinePower :=
  if !s.running then .none
  else match (s.line l).phase.state with
    | .off | .fault => .none
    | .standby => .standbyLevel
    | .waking | .census | .active => .full

/-! ### Floor records of a room (R78; log 10) -/

/-- Whether a seat is in the room a segment leads. -/
def State.inRoom (s : State) (lead n : Nat) : Bool := s.seatRoom n == some lead

/-- A room's speaker list, oldest open stamp first (R79). -/
def State.speakersIn (s : State) (lead : Nat) : List Speaker := s.flc.speakers.filter fun e => s.inRoom lead e.seat

/-- A room's request queue by class and stamp (R80). -/
def State.queueIn (s : State) (lead : Nat) : List Request := s.flc.queue.filter fun q => s.inRoom lead q.seat

/-- A room's holder set in seat order (R78). -/
def State.holdersIn (s : State) (lead : Nat) : List Nat := s.flc.holders.filter fun n => s.inRoom lead n

/-- A room's delegate entries, muted or not (R79). -/
def State.delegatesIn (s : State) (lead : Nat) : List Speaker := (s.speakersIn lead).filter fun e => e.kind == .delegate

/-- The delegate count of a room (R79). -/
def State.delegateCount (s : State) (lead : Nat) : Nat := (s.delegatesIn lead).length

/-- The chair count of a room (R79). -/
def State.chairCount (s : State) (lead : Nat) : Nat := ((s.speakersIn lead).filter fun e => e.kind == .chair).length

/-- The open count of the hall (R82). -/
def State.openCount (s : State) : Nat := s.flc.speakers.length

/-- A pool slot is free (R82). -/
def State.slotFree (s : State) : Bool := s.openCount < s.pool

/-- The free request entries (R80). -/
def State.freeRequests (s : State) : Nat := Config.requestEntries - s.flc.queue.length

/-- A room's delegate count is below its limit in force (R83). -/
def State.belowLimit (s : State) (lead : Nat) : Bool := s.delegateCount lead < (s.settings lead).limit

/-- The speaker-list entry of a seat. -/
def State.speaker (s : State) (n : Nat) : Option Speaker := s.flc.speakers.find? fun e => e.seat == n

/-- The request entry of a seat. -/
def State.request (s : State) (n : Nat) : Option Request := s.flc.queue.find? fun q => q.seat == n

/-- A room is eligible for advance (R94). -/
def State.eligible (s : State) (lead : Nat) : Bool :=
  let t := s.settings lead
  t.mode == .queued && (t.autoAdvance || s.ctp.autonomous) && (s.holdersIn lead).isEmpty && s.belowLimit lead &&
    !(s.queueIn lead).isEmpty

/-- A seat's floor status (R63). -/
def State.floorStatus (s : State) (n : Nat) : FloorStatus :=
  match s.speaker n with
  | some e => if e.muted then .openMuted else .opened
  | none =>
    match s.request n with
    | some q => match q.cls with
      | .returned => .queuedReturned
      | .normal => .queuedNormal
    | none => .closed

/-! ### Speech timing (R117) -/

/-- The allowance of an entry under a speech limit. -/
def allowance (speechLimit extension : Nat) : Nat := speechLimit + extension

/-- The warning point: the allowance less the lead, 0 when the lead is not less than it (R117). -/
def warningPoint (allow lead : Nat) : Nat := allow - lead

/-- The warning condition of R117; timing is off while the speech limit is 0. -/
def warningHolds (t : Template) (e : Speaker) : Bool :=
  t.speechLimit != 0 && warningPoint (allowance t.speechLimit e.extension) t.warningLead ≤ e.seconds

/-- The expiry condition of R117 under a speech limit. -/
def expiryHolds (speechLimit : Nat) (e : Speaker) : Bool :=
  speechLimit != 0 && allowance speechLimit e.extension ≤ e.seconds

/-! ### Channels, booths and desks -/

/-- A channel is active under the profile: 1..Nc (R128). -/
def State.isActive (s : State) (c : Nat) : Bool := 1 ≤ c && c ≤ s.activeChannels

/-- A channel is enabled and active. -/
def State.inUse (s : State) (c : Nat) : Bool := s.isActive c && (s.channel c).enabled

/-- A channel's room: the room of its home segment (R127). -/
def State.channelRoom (s : State) (c : Nat) : Nat := s.roomOf (s.channel c).home

/-- A booth's room: the room of its home segment (R131). -/
def State.boothRoom (s : State) (b : Nat) : Nat := s.roomOf (s.booth b).home

/-- Two channels of one group of R129: in use, in one room, with one tag. -/
def State.sameGroup (s : State) (c d : Nat) : Bool :=
  s.inUse c && s.inUse d && s.channelRoom c == s.channelRoom d && (s.channel c).tag == (s.channel d).tag

/-- Channel c comes before channel d for the place of primary: lowest home segment, then lowest number (R129). -/
def State.primaryBefore (s : State) (c d : Nat) : Bool :=
  (s.channel c).home < (s.channel d).home || ((s.channel c).home == (s.channel d).home && c < d)

/-- The primary of a channel's group (R129). -/
def State.primaryOf (s : State) (c : Nat) : Nat :=
  (channelNumbers.filter (s.sameGroup c)).foldl (fun best d => if s.primaryBefore d best then d else best) c

/-- A channel's role (R129). -/
def State.role (s : State) (c : Nat) : Role :=
  if !s.inUse c then .dormant
  else if s.primaryOf c = c then .primary else .shadow (s.primaryOf c)

/-- The roles of all channels in order. -/
def State.roles (s : State) : List Role := channelNumbers.map s.role

/-- A channel is SHADOW. -/
def Role.isShadow : Role → Bool
  | .shadow _ => true
  | _ => false

/-- A booth is in service while it is enabled and its A channel is active (R131). -/
def State.inService (s : State) (b : Nat) : Bool := (s.booth b).enabled && s.isActive (s.booth b).a

/-- A booth's B channel for the run: none (0) when it is above Nc (R131). -/
def State.boothB (s : State) (b : Nat) : Nat := if s.isActive (s.booth b).b then (s.booth b).b else 0

/-- A booth is parked while it is in service and its A channel is SHADOW (R147). -/
def State.parked (s : State) (b : Nat) : Bool := s.inService b && (s.role (s.booth b).a).isShadow

/-- Whether a booth sources a channel (R127, R131). -/
def State.sources (s : State) (b c : Nat) : Bool :=
  s.inService b && c != 0 && ((s.booth b).a == c || s.boothB b == c)

/-- A channel's source booth (R127). -/
def State.sourceBooth (s : State) (c : Nat) : Option Nat := boothNumbers.find? fun b => s.sources b c

/-- A booth's desk list: the seats whose booth field names it, by seat number (R131). -/
def State.desksOf (s : State) (b : Nat) : List Nat := seatNumbers.filter fun n => (s.seat n).set.booth == some b

/-- A booth's live desk (R139: at most one). -/
def State.boothLive (s : State) (b : Nat) : Option Nat := (s.desksOf b).find? fun n => (s.seat n).desk.live

/-- The channel of a booth that an output select chooses (R138). -/
def State.outputChannel (s : State) (b : Nat) : OutputSelect → Nat
  | .a => (s.booth b).a
  | .b => s.boothB b

/-- A channel's live desk: the live desk of its source booth when its output select chooses the channel (R127, R138). -/
def State.liveDesk (s : State) (c : Nat) : Option Nat :=
  (s.sourceBooth c).bind fun b =>
    (s.desksOf b).find? fun n => (s.seat n).desk.live && s.outputChannel b (s.seat n).desk.output == c

/-- A channel's output mode (R130). -/
def State.outputMode (s : State) (c : Nat) : OutputMode :=
  match s.role c with
  | .primary => if (s.liveDesk c).isSome then .interpreted else .autoFloor
  | .shadow _ => .mirror
  | .dormant => .silent

/-- A channel is one of a booth's own channels (R131). -/
def Booth.owns (b : Booth) (c : Nat) : Bool := c != 0 && (b.a == c || b.b == c)

/-- A channel is a relay source for a booth's desks: an enabled, active PRIMARY channel of the booth's room that is not the
booth's own (R142). -/
def State.relaySource (s : State) (b c : Nat) : Bool :=
  s.role c == .primary && s.channelRoom c == s.boothRoom b && !(s.booth b).owns c

/-- A listen channel is valid for a seat: 0, or an enabled, active channel of the seat's room (R145). -/
def State.listenValid (s : State) (n c : Nat) : Bool :=
  c == 0 || (s.inUse c && s.seatRoom n == some (s.channelRoom c))

/-! ### The relay graph (R143, R144) -/

/-- The edges from booths to the channels their desk entries select (R143). -/
def State.relayEdges (s : State) : List (Nat × Nat) :=
  seatNumbers.filterMap fun n =>
    match (s.seat n).set.booth with
    | some b => if (s.seat n).desk.input = 0 then none else some (b, (s.seat n).desk.input)
    | none => none

/-- The edges with the source booth of the selected channel, where it has one: from booth to (channel, source booth). -/
def State.relaySteps (s : State) : List (Nat × Option Nat) := s.relayEdges.map fun e => (e.1, s.sourceBooth e.2)

/-- The booths from which a chain of k relay steps starts: with k = 1 those with a selection, with k + 1 those with a
selection of a channel whose source booth starts a chain of k. -/
def chainBooths (steps : List (Nat × Option Nat)) : Nat → List Nat
  | 0 => boothNumbers
  | 1 => boothNumbers.filter fun b => steps.any fun e => e.1 == b
  | k + 2 =>
    let next := chainBooths steps (k + 1)
    boothNumbers.filter fun b => steps.any fun e =>
      e.1 == b && (match e.2 with
        | some d => next.contains d
        | none => false)

/-- The relay graph has a cycle: with 16 booths, a chain of 17 steps passes one booth twice (R144). -/
def State.relayCycle (s : State) : Bool := !(chainBooths s.relaySteps 17).isEmpty

/-- Some channel's relay depth exceeds 3: its source booth starts a chain of 4 steps (R143, R144). The chain behind a SHADOW
channel, whose depth R143 leaves undefined, counts as any other (log 49). -/
def State.relayTooDeep (s : State) : Bool :=
  let deep := chainBooths s.relaySteps 4
  channelNumbers.any fun c => match s.sourceBooth c with
    | some b => deep.contains b
    | none => false

/-- A channel's relay depth (R143): the longest chain its source booth starts. -/
def State.relayDepth (s : State) (c : Nat) : Nat :=
  match s.sourceBooth c with
  | none => 0
  | some b => ((List.range 16).filter fun k => (chainBooths s.relaySteps (k + 1)).contains b).length

/-! ### Indicator memory (chapter 4) -/

/-- The mic ring (R67). That of a seat without a unit is OFF (log 50). -/
def State.ring (s : State) (n : Nat) : Ring :=
  match (s.seat n).kind with
  | some .delegate =>
    match s.speaker n with
    | none => .off
    | some e => if e.muted then .muted else if e.warned then .warn else .on
  | some .chair => if (s.speaker n).isSome then .on else .off
  | some .desk => if (s.seat n).set.booth.isSome && (s.seat n).desk.live then .on else .off
  | _ => .off

/-- The request lamp (R68). -/
def State.requestLamp (s : State) (n : Nat) : RequestLamp :=
  if (s.seat n).flash.isSome then .denied else if (s.request n).isSome then .on else .off

/-- A seat's entry of the indicator memory, without the loudspeaker field, which State.loudspeakerMuted gives (R66 to R71;
log 54). -/
def State.lamps (s : State) (n : Nat) : Lamps :=
  let t := s.seat n
  let desk := t.kind == some .desk
  let live := match t.set.booth with
    | some b => if desk then s.boothLive b else none
    | none => none
  { ring := s.ring n
    request := s.requestLamp n
    live := live == some n
    busy := live.isSome && live != some n
    parked := desk && (match t.set.booth with
      | some b => s.parked b
      | none => false)
    bActive := desk && t.set.booth.isSome && t.desk.output == .b
    listenEcho := t.listen
    inputEcho := if desk && t.set.booth.isSome then t.desk.input else 0
    text := t.text }

/-- The loudspeaker field: MUTED while the seat has a speaker-list entry (R73). -/
def State.loudspeakerMuted (s : State) (n : Nat) : Bool := (s.speaker n).isSome

/-- A blank record (R76). -/
def blankLamps : Lamps :=
  { ring := .off, request := .off, live := false, busy := false, parked := false, bActive := false, listenEcho := 0,
    inputEcho := 0, text := none }

/-! ### Control port -/

/-- The class of each notice (Table 9-6). -/
def Notice.cls : Notice → NoticeClass
  | .start .. | .frameError .. | .commandDropped .. | .noticeLoss .. | .storeDone .. | .storeInvalid | .hostAbsent ..
  | .hostBack .. => .system
  | .wallSensor .. | .wallFault .. | .wallConflict .. | .regroupBegun .. | .regroupDone .. | .regroupCancelled .. => .hall
  | .lineState .. | .censusDone .. | .seatFound .. | .seatLost .. | .seatChanged .. | .lineOverlength ..
  | .wakeCancelled .. | .seatUnplaced .. => .line
  | .micOpened .. | .micClosed .. | .micRefused .. | .priorityOn .. | .priorityOff .. => .floor
  | .requestAdded .. | .requestRemoved .. | .requestDropped .. => .queue
  | .speechWarning .. | .speechExpired .. => .timer
  | .deskLive .. | .deskOff .. | .channelRole .. | .boothParked .. | .boothUnparked .. | .relayLost ..
  | .listenReset .. | .monitorCleared .. => .language
  | .clip .. => .audio

/-- The place of a class in the notice class mask (R194). -/
def NoticeClass.bit (c : NoticeClass) : Nat := noticeClassValues.idxOf c

/-- A class is enabled in a mask; SYSTEM always is (R192, R194). -/
def classEnabled (mask : Byte) (c : NoticeClass) : Bool := c == .system || mask.getLsbD c.bit

/-- PULSE mode with the enable ON (R197). -/
def Ctp.pulsing (c : Ctp) : Bool := c.attn.enable && c.attn.mode == .pulse

/-- The ATTN output: released while the part is held or the enable is OFF; in LEVEL mode asserted while a frame waits, in
PULSE mode while a pulse is asserted (R195 to R197, R204). -/
def State.attn (s : State) : Bool :=
  s.running && s.ctp.attn.enable &&
    (match s.ctp.attn.mode with
      | .level => !(s.ctp.replies.isEmpty && s.ctp.notices.isEmpty)
      | .pulse => s.ctp.pulse == .asserted)

/-- The length of an ATTN pulse, and of the release after it, in microseconds (R197). -/
def pulseMicros (width : Nat) : Nat := 40 * (width + 1)

/-- The absence count in whole seconds, at most 65535, held at 0 while the period is 0 (R199). -/
def Ctp.absenceCount (c : Ctp) : Nat :=
  if c.period = 0 then 0 else min Config.absenceMax (c.absenceFrames / Config.framesPerSecond)

/-- The host absence timer runs (R199). -/
def Ctp.timerRuns (c : Ctp) : Bool := c.period != 0 && !c.autonomous

/-- Whole seconds in a number of audio frames, a part-second rounded as the free value says (log 17). -/
def secondsOf (frames : Nat) : Nat :=
  frames / Config.framesPerSecond +
    (if frames % Config.framesPerSecond = 0 then 0 else if Config.roundsSecondsUp then 1 else 0)

/-- Whole milliseconds in a number of audio frames, a part rounded as the free value says (log 17). -/
def msOf (frames : Nat) : Nat :=
  frames / Config.framesPerMs + (if frames % Config.framesPerMs = 0 then 0 else if Config.roundsMsUp then 1 else 0)

/-- The seconds left before the host absence timer expires, 0 when it is stopped (R203). -/
def Ctp.secondsLeft (c : Ctp) : Nat :=
  if c.timerRuns then secondsOf (c.period * Config.framesPerSecond - c.absenceFrames) else 0

end Sys2Proof.Machine
end

