-- ==== Sys2Proof/Machine/Ops.lean ====
section
/-! DEFINITION. The shared operations over the records: writing a table entry, sending a notice, queueing a reply, the
DENIED flash, and issuing a stamp. -/

namespace Sys2Proof.Machine

/-! ### Writing one record of a table -/

/-- Write wall k. -/
def State.setWall (s : State) (k : Nat) (f : Wall → Wall) : State :=
  { s with ptu := { s.ptu with walls := s.ptu.walls.modify (k - 1) f } }

/-- Write segment g. -/
def State.setSegment (s : State) (g : Nat) (f : Segment → Segment) : State :=
  { s with ptu := { s.ptu with segments := s.ptu.segments.modify (g - 1) f } }

/-- Write line l. -/
def State.setLine (s : State) (l : Nat) (f : Line → Line) : State :=
  { s with slc := { s.slc with lines := s.slc.lines.modify l f } }

/-- Write every line, by its number. -/
def State.setLines (s : State) (f : Nat → Line → Line) : State :=
  { s with slc := { s.slc with lines := s.slc.lines.mapIdx f } }

/-- Write seat n. -/
def State.setSeat (s : State) (n : Nat) (f : Seat → Seat) : State :=
  { s with slc := { s.slc with seats := s.slc.seats.modify n f } }

/-- Write every seat of a list. -/
def State.setSeats (s : State) (ns : List Nat) (f : Nat → Seat → Seat) : State :=
  ns.foldl (fun t n => t.setSeat n (f n)) s

/-- Write channel c. -/
def State.setChannel (s : State) (c : Nat) (f : Channel → Channel) : State :=
  { s with lgr := { s.lgr with channels := s.lgr.channels.modify (c - 1) f } }

/-- Write booth b. -/
def State.setBooth (s : State) (b : Nat) (f : Booth → Booth) : State :=
  { s with lgr := { s.lgr with booths := s.lgr.booths.modify (b - 1) f } }

/-- Write the route of monitor m. -/
def State.setMonitor (s : State) (m : Nat) (r : Route) : State :=
  { s with lgr := { s.lgr with monitors := s.lgr.monitors.set (m - 1) r } }

/-- Write a desk entry. -/
def State.setDesk (s : State) (n : Nat) (f : DeskEntry → DeskEntry) : State :=
  s.setSeat n fun t => { t with desk := f t.desk }

/-- Write every speaker-list entry. -/
def State.mapSpeakers (s : State) (f : Speaker → Speaker) : State :=
  { s with flc := { s.flc with speakers := s.flc.speakers.map f } }

/-- Write the speaker-list entries of a seat. -/
def State.setSpeaker (s : State) (n : Nat) (f : Speaker → Speaker) : State :=
  s.mapSpeakers fun e => if e.seat == n then f e else e

/-! ### Notices and replies -/

/-- Each frame that joins a queue adds a pending pulse in PULSE mode with the enable ON, up to 64 (R197). -/
def Ctp.addPulse (c : Ctp) : Ctp :=
  if c.pulsing then { c with pulses := min Config.pulseMax (c.pulses + 1) } else c

/-- A notice taken by the control port (R192): not queued when its class is disabled, queued at the tail while a place is
free, otherwise counted in the loss count, which stays at 255. -/
def Ctp.notify (c : Ctp) (n : Notice) : Ctp :=
  if !classEnabled c.mask n.cls then c
  else if c.notices.length < Config.noticePlaces then { c with notices := c.notices ++ [n] }.addPulse
  else { c with loss := min Config.lossMax (c.loss + 1) }

/-- Send a notice. -/
def State.notify (s : State) (n : Notice) : State := { s with ctp := s.ctp.notify n }

/-- Send notices in order. -/
def State.notifyAll (s : State) (ns : List Notice) : State := ns.foldl State.notify s

/-- A reply frame joins the tail of the reply queue (R187, R191). -/
def Ctp.queueReply (c : Ctp) (f : Frame) : Ctp := { c with replies := c.replies ++ [f] }.addPulse

/-- Queue reply frames in order. -/
def State.queueReplies (s : State) (fs : List Frame) : State := { s with ctp := fs.foldl Ctp.queueReply s.ctp }

/-! ### DENIED flash and stamps -/

/-- A refusal starts a seat's DENIED flash, or restarts it, with 2 s remaining (R69). -/
def State.flash (s : State) (n : Nat) : State := s.setSeat n fun t => { t with flash := some Config.flashFrames }

/-- The stamp issued after the count given (R1); past the last 40-bit value it is free (log 16). -/
def nextStamp (c : Stamp) : Stamp := if c = BitVec.allOnes 40 then Config.stampAfterLast else c + 1#40

/-- Issue a stamp: the count moves on and the issued value is the new count (R1). -/
def State.issueStamp (s : State) : State := { s with stamp := nextStamp s.stamp }

/-! ### Lists kept in order -/

/-- Insert a value before the first entry it comes before. -/
def insertBefore {α : Type} (before : α → α → Bool) (x : α) : List α → List α
  | [] => [x]
  | y :: ys => if before x y then x :: y :: ys else y :: insertBefore before x ys

/-- Request x is served before request y: RETURNED before NORMAL, then the smaller stamp (R80). -/
def Request.before (x y : Request) : Bool :=
  match x.cls, y.cls with
  | .returned, .normal => true
  | .normal, .returned => false
  | _, _ => x.stamp.toNat < y.stamp.toNat

end Sys2Proof.Machine
end

