-- ==== Sys2Proof/Machine/Encode.lean ====
section
/-! DEFINITION. The byte layouts the host sees: the check value of a frame (R183), notice records (Tables 9-5 and 9-6), and
reports (Tables 9-7 to 9-10). -/

namespace Sys2Proof.Machine

/-! ### CRC-16 and the frame -/

/-- One bit of the CRC-16 register: generator 1021h, most significant bit first (R183). -/
def crc16Bit (r : BitVec 16) : BitVec 16 := if r.msb then (r <<< 1) ^^^ 0x1021#16 else r <<< 1

/-- Take n bits of the CRC-16 register. -/
def crc16Bits : Nat → BitVec 16 → BitVec 16
  | 0, r => r
  | n + 1, r => crc16Bits n (crc16Bit r)

/-- One byte of the CRC-16 (R183). -/
def crc16Byte (r : BitVec 16) (b : Byte) : BitVec 16 := crc16Bits 8 (r ^^^ (b.zeroExtend 16 <<< 8))

/-- The CRC-16 over bytes: register start FFFFh, no reflection, no final inversion (R183). -/
def crc16 (bs : List Byte) : BitVec 16 := bs.foldl crc16Byte 0xFFFF#16

/-- The bytes the CRC-16 of a frame covers: payload length, kind, tag and payload (R183). -/
def coveredBytes (kind tag : Byte) (payload : List Byte) : List Byte := bytes2 payload.length ++ [kind, tag] ++ payload

/-- The two bytes of a check value, high byte first (R183). -/
def checkBytes (w : BitVec 16) : List Byte := bytes2 w.toNat

/-- The check value of a frame. -/
def frameCheck (kind tag : Byte) (payload : List Byte) : BitVec 16 := crc16 (coveredBytes kind tag payload)

/-- The sync byte (R182). -/
def syncByte : Byte := 0xC6#8

/-- A frame as it travels (Table 9-1). -/
def Frame.bytes (f : Frame) : List Byte :=
  syncByte :: coveredBytes f.kind f.tag f.payload ++ checkBytes (frameCheck f.kind f.tag f.payload)

/-! ### Notice records -/

/-- A seat number in two bytes (Table 9-3). -/
def seatBytes (n : Nat) : List Byte := bytes2 n

/-- The kind of a unit, coded in the list of presence and kind (log 23). -/
def kindByte (k : Kind) : Byte := codeIn presenceValues (some k)

/-- A map: room count, then each room's leading and last segment (Table 9-3). -/
def mapBytes (m : RoomMap) : List Byte := byte m.length :: m.flatMap fun r => [byte r.1, byte r.2]

/-- A room list: count, then each leading segment (Table 9-3). -/
def roomListBytes (rs : List Nat) : List Byte := byte rs.length :: rs.map byte

/-- The code of a notice (Table 9-6). -/
def Notice.code : Notice → Byte
  | .start .. => 0x00#8
  | .frameError .. => 0x01#8
  | .commandDropped .. => 0x02#8
  | .noticeLoss .. => 0x03#8
  | .storeDone .. => 0x04#8
  | .storeInvalid => 0x05#8
  | .hostAbsent .. => 0x06#8
  | .hostBack .. => 0x07#8
  | .wallSensor .. => 0x10#8
  | .wallFault .. => 0x11#8
  | .wallConflict .. => 0x12#8
  | .regroupBegun .. => 0x13#8
  | .regroupDone .. => 0x14#8
  | .regroupCancelled .. => 0x15#8
  | .lineState .. => 0x20#8
  | .censusDone .. => 0x21#8
  | .seatFound .. => 0x22#8
  | .seatLost .. => 0x23#8
  | .seatChanged .. => 0x24#8
  | .lineOverlength .. => 0x25#8
  | .wakeCancelled .. => 0x26#8
  | .seatUnplaced .. => 0x27#8
  | .micOpened .. => 0x30#8
  | .micClosed .. => 0x31#8
  | .micRefused .. => 0x32#8
  | .priorityOn .. => 0x33#8
  | .priorityOff .. => 0x34#8
  | .requestAdded .. => 0x40#8
  | .requestRemoved .. => 0x41#8
  | .requestDropped .. => 0x42#8
  | .speechWarning .. => 0x50#8
  | .speechExpired .. => 0x51#8
  | .deskLive .. => 0x60#8
  | .deskOff .. => 0x61#8
  | .channelRole .. => 0x62#8
  | .boothParked .. => 0x63#8
  | .boothUnparked .. => 0x64#8
  | .relayLost .. => 0x65#8
  | .listenReset .. => 0x66#8
  | .monitorCleared .. => 0x67#8
  | .clip .. => 0x70#8

/-- The fields of a notice, in the order of Table 9-6 and coded as Table 9-3. A PRIORITY_ON of more than 254 holders stands
above the 512 bytes of R182 and is given whole (log 41). -/
def Notice.fields : Notice → List Byte
  | .start c a p st =>
    [codeIn resetCauseValues c, codeIn profileValues a, codeIn profileValues p, codeIn storeStatusValues st]
  | .frameError r n len k t => [codeIn frameErrorReasonValues r] ++ bytes2 n ++ bytes2 len ++ [k, t]
  | .commandDropped k t => [k, t]
  | .noticeLoss n => [byte n]
  | .storeDone r => [codeIn storeResultValues r]
  | .storeInvalid => []
  | .hostAbsent p => [byte p]
  | .hostBack n => bytes2 n
  | .wallSensor w p n r => [byte w, codeIn sensorValues p, codeIn sensorValues n, r]
  | .wallFault w k r => [byte w, codeIn wireFaultValues k, r]
  | .wallConflict w f p q => [byte w, flagByte f, codeIn privacyValues p, codeIn privacyValues q]
  | .regroupBegun o c t a k => [codeIn occasionValues o] ++ mapBytes c ++ mapBytes t ++ roomListBytes a ++ bytes2 k
  | .regroupDone o n rs k => mapBytes o ++ mapBytes n ++ roomListBytes rs ++ bytes2 k
  | .regroupCancelled c w rs => mapBytes c ++ mapBytes w ++ roomListBytes rs
  | .lineState l p n c => [byte l, codeIn lineStateValues p, codeIn lineStateValues n, codeIn lineCauseValues c]
  | .censusDone l n => [byte l, byte n]
  | .seatFound n w k => seatBytes n ++ serialBytes w ++ [kindByte k]
  | .seatLost n w => seatBytes n ++ serialBytes w
  | .seatChanged n w k w' k' => seatBytes n ++ serialBytes w ++ [kindByte k] ++ serialBytes w' ++ [kindByte k']
  | .lineOverlength l => [byte l]
  | .wakeCancelled l => [byte l]
  | .seatUnplaced n => seatBytes n
  | .micOpened n r k o => seatBytes n ++ [byte r, kindByte k, codeIn openOriginValues o]
  | .micClosed n r k c secs => seatBytes n ++ [byte r, kindByte k, codeIn closeCauseValues c] ++ bytes2 secs
  | .micRefused n r c => seatBytes n ++ [byte r, c.byte]
  | .priorityOn r hs => [byte r, countByte hs.length] ++ hs.flatMap seatBytes
  | .priorityOff r n => byte r :: seatBytes n
  | .requestAdded n r c p => seatBytes n ++ [byte r, codeIn requestClassValues c, byte p]
  | .requestRemoved n r c => seatBytes n ++ [byte r, codeIn removalCauseValues c]
  | .requestDropped n r c => seatBytes n ++ [byte r, codeIn closeCauseValues c]
  | .speechWarning n r secs a => seatBytes n ++ [byte r] ++ bytes2 secs ++ bytes2 a
  | .speechExpired n r secs a x =>
    seatBytes n ++ [byte r] ++ bytes2 secs ++ bytes2 a ++ [codeIn expiryActionValues x]
  | .deskLive n b c r => seatBytes n ++ [byte b, byte c, byte r]
  | .deskOff n b c x => seatBytes n ++ [byte b, byte c, codeIn deskOffCauseValues x]
  | .channelRole c r o n => [byte c, byte r, roleCode o, roleCode n, byte (rolePrimary n)]
  | .boothParked b r a p => [byte b, byte r, byte a, byte p]
  | .boothUnparked b r => [byte b, byte r]
  | .relayLost n b c => seatBytes n ++ [byte b, byte c]
  | .listenReset r n => byte r :: bytes2 n
  | .monitorCleared m src x => [byte m, routeKindByte src, byte (routeNumber src), codeIn clearReasonValues x]
  | .clip src n p => [codeIn clipSourceValues src, byte n, codeIn polarityValues p]

/-- The notice record (Table 9-5). -/
def Notice.record (n : Notice) : List Byte := [n.code, byte n.cls.bit] ++ n.fields

/-- The frame of a notice: kind 7Fh, tag 00h (R182). -/
def Notice.frame (n : Notice) : Frame := { kind := 0x7F#8, tag := 0x00#8, payload := n.record }

/-- The frame that the transfer in progress sends, as bytes: none where none is chosen, none once it has left its queue
(R180, R181), and none once a start or a hold of the part has abandoned the transfer (R204, log 56). -/
def State.outboundBytes (s : State) : List Byte :=
  match s.ctp.transfer with
  | none => []
  | some t =>
    match t.outbound with
    | .none => []
    | .reply => ((s.ctp.replies.head?).map Frame.bytes).getD []
    | .notice => ((s.ctp.notices.head?).map fun n => n.frame.bytes).getD []

/-- The byte on data out at offset i of the transfer: the chosen frame's, then 00h, which a transfer without a frame sends
throughout (R180); 00h too for the rest of a transfer that a start or a hold of the part has abandoned (log 56). -/
def State.dataOut (s : State) (i : Nat) : Byte := s.outboundBytes.getD i 0x00#8

/-! ### Reports -/

/-- The STATUS_GET report (Table 9-7); the reply queue count includes this reply's own frame (R203). The counts of replies,
notices and pending pulses are one byte each (log 52). -/
def State.statusReport (s : State) : List Byte :=
  [codeIn resetCauseValues s.sts.cause, codeIn profileValues s.sts.active, codeIn profileValues s.sts.pending,
    codeIn storeStatusValues s.sts.status, flagByte s.sts.saving.isSome, s.ctp.mask, flagByte s.ctp.attn.enable,
    codeIn attnModeValues s.ctp.attn.mode, byte s.ctp.attn.width, byte s.ctp.period, byte s.ctp.secondsLeft,
    flagByte s.ctp.autonomous, byte (s.ctp.replies.length + 1), byte s.ctp.notices.length, byte s.ctp.loss,
    byte s.ctp.pulses, codeIn seqStateValues s.ptu.seq] ++
    lineNumbers.map fun l => codeIn lineStateValues (s.line l).phase.state

/-- The thirteen bytes of a wall in the HALL_GET report (Table 9-8). -/
def wallReport (w : Wall) : List Byte :=
  [codeIn policyValues w.set.policy, codeIn joinValues w.set.held, byte w.set.settleTime, w.lastReading,
    codeIn sensorValues w.settled, ((w.faultKind.map (codeIn wireFaultValues)).getD 0xFF#8),
    codeIn sensorValues w.candidate] ++ bytes2 ((w.timer.map (·.count)).getD 0xFFFF) ++
    [codeIn joinValues w.requested, codeIn joinValues w.target, codeIn joinValues w.current, flagByte w.conflict]

/-- The bytes of a room in the HALL_GET report (Table 9-8). -/
def State.roomReport (s : State) (lead : Nat) : List Byte :=
  let r := s.room lead
  [byte r.lead, byte r.last, codeIn privacyValues (s.privacy lead), flagByte r.regrouping] ++ bytes2 r.position ++
    [codeIn directionValues r.direction]

/-- The HALL_GET report (Table 9-8); its room count is one byte (log 52). -/
def State.hallReport (s : State) : List Byte :=
  (s.ptu.walls.flatMap wallReport) ++
  (segmentNumbers.flatMap fun g =>
    [codeIn privacyValues (s.privacy g)] ++ templateBytes (s.segment g).template ++ [byte (s.roomOf g)]) ++
  (byte s.leads.length :: s.leads.flatMap s.roomReport) ++
  [codeIn seqStateValues s.ptu.seq] ++ bytes2 s.ptu.fadeTime ++ bytes2 s.ptu.k

/-- The presence and kind byte of a seat (Table 9-3). -/
def State.presenceByte (s : State) (n : Nat) : Byte := codeIn presenceValues (s.seat n).kind

/-- The LINE_GET report (Table 9-9); the census position and the fault position are one byte each (log 52). -/
def State.lineReport (s : State) (l : Nat) : List Byte :=
  let x := s.line l
  let origin := match x.phase with
    | .waking o _ => codeIn wakeOriginValues o
    | _ => 0xFF#8
  let remaining := match x.phase with
    | .waking _ r => msOf r
    | _ => 0
  let position := match x.phase with
    | .census c => min 64 (c.found.length + 1)
    | _ => 0
  let cause := match x.phase with
    | .fault f _ => codeIn lineFaultValues f
    | _ => 0xFF#8
  let faultPosition := match x.phase with
    | .fault _ p => p.getD 0
    | _ => 0
  [byte l, codeIn lineStateValues x.phase.state, origin] ++ bytes2 remaining ++
    [byte position, byte x.unitCount, codeIn powerPolicyValues x.set.powerPolicy, flagByte x.set.wakeOnPress,
      flagByte x.set.autoRelight, flagByte x.indicators, flagByte x.presenceChanged, flagByte x.overlength, cause,
      byte faultPosition] ++
    (seatsOfLine l).map s.presenceByte

/-- The desk live byte of a SEAT_GET: FFh for a seat that is not a desk in a booth (Table 9-9). -/
def State.deskLiveByte (s : State) (n : Nat) : Byte :=
  if (s.seat n).kind = some .desk ∧ (s.seat n).set.booth.isSome then flagByte (s.seat n).desk.live else 0xFF#8

/-- The SEAT_GET report (Table 9-9); the seat's position is one byte (log 52). -/
def State.seatReport (s : State) (n : Nat) : List Byte :=
  let t := s.seat n
  let text := t.text.getD []
  seatBytes n ++ [byte (lineOfSeat n), byte (positionOfSeat n),
    codeIn lineStateValues (s.line (lineOfSeat n)).phase.state, s.presenceByte n] ++
    serialBytes ((t.unit.map (·.serial)).getD 0#32) ++ [optByte t.set.placement, byte (s.seatRoomCode n)] ++
    coeffBytes t.set.trim ++ [optByte t.set.booth, byte t.listen] ++ bytes3 t.talkTotal ++
    [codeIn floorStatusValues (s.floorStatus n), s.deskLiveByte n, byte text.length] ++ text

/-- The fifteen bytes of a speaker-list entry (Table 9-10). -/
def speakerReport (e : Speaker) : List Byte :=
  seatBytes e.seat ++ [kindByte e.kind] ++ stampBytes e.stamp ++ bytes2 e.seconds ++ bytes2 e.extension ++
    [flagByte e.muted, flagByte e.warned, flagByte e.byPriority]

/-- The eight bytes of a request entry (Table 9-10). -/
def requestReport (q : Request) : List Byte :=
  seatBytes q.seat ++ [codeIn requestClassValues q.cls] ++ stampBytes q.stamp

/-- The ROOM_GET report (Table 9-10). The delegate count, chair count, P, open count, free request entries and holder count
are one byte each, which no table says (log 52). -/
def State.floorReport (s : State) (lead : Nat) : List Byte :=
  let holders := s.holdersIn lead
  let speakers := s.speakersIn lead
  let queue := s.queueIn lead
  [byte lead, byte (lastOf s.joins lead)] ++ templateBytes (s.settings lead) ++
    [byte (s.delegateCount lead), byte (s.chairCount lead), flagByte (s.eligible lead), byte s.pool, byte s.openCount,
      byte s.freeRequests, flagByte s.ctp.autonomous] ++
    (countByte holders.length :: holders.flatMap seatBytes) ++
    (byte speakers.length :: speakers.flatMap speakerReport) ++
    (byte queue.length :: queue.flatMap requestReport)

/-- The fourteen bytes of a channel in the LANGUAGE_GET report (Table 9-10). -/
def State.channelReport (s : State) (c : Nat) : List Byte :=
  let x := s.channel c
  let role := s.role c
  [flagByte x.enabled, x.tag.c1, x.tag.c2, x.tag.c3, byte x.home, byte (s.channelRoom c), flagByte (s.isActive c),
    roleCode role, byte (rolePrimary role), optByte (s.sourceBooth c)] ++ bytes2 ((s.liveDesk c).getD 0xFFFF) ++
    [codeIn outputModeValues (s.outputMode c), if role = .primary then byte (s.relayDepth c) else 0xFF#8]

/-- The bytes of a booth in the LANGUAGE_GET report (Table 9-10); the B channel is the stored one, above Nc too (log 48), and
the desk count is one byte (log 52). -/
def State.boothReport (s : State) (b : Nat) : List Byte :=
  let x := s.booth b
  let desks := s.desksOf b
  [flagByte x.enabled, byte x.home, byte x.a, byte x.b, codeIn interlockValues x.interlock, flagByte (s.inService b),
    flagByte (s.parked b), byte desks.length] ++
    desks.flatMap fun n =>
      let d := (s.seat n).desk
      seatBytes n ++ [flagByte d.live, codeIn outputSelectValues d.output, byte d.input]

/-- The LANGUAGE_GET report (Table 9-10); Nc is one byte (log 52). -/
def State.languageReport (s : State) : List Byte :=
  [byte s.activeChannels] ++ channelNumbers.flatMap s.channelReport ++ boothNumbers.flatMap s.boothReport ++
    [1, 2].flatMap fun m => [routeKindByte (s.monitor m), byte (routeNumber (s.monitor m))]

/-- A clip record's bytes (Table 9-7). -/
def clipBytes (c : Clip) : List Byte := flagByte c.latch :: bytes2 c.count

/-- The clip record of a room, clear where the room has none. -/
def State.roomMix (s : State) (lead : Nat) : RoomMix :=
  (s.mxe.rooms.find? fun r => r.lead == lead).getD
    { lead := lead, last := lastOf s.joins lead, nom := (s.settings lead).nom, gain := (s.settings lead).gain,
      autoFloorGain := (s.settings lead).autoFloorGain, clip := clearClip }

/-- The CLIP_GET report (Table 9-7); its room count is one byte (log 52). -/
def State.clipReport (s : State) : List Byte :=
  (byte s.leads.length :: s.leads.flatMap fun lead =>
    [byte lead, byte (lastOf s.joins lead)] ++ clipBytes (s.roomMix lead).clip) ++ s.mxe.channels.flatMap clipBytes

end Sys2Proof.Machine
end

