-- ==== Sys2Proof/WellFormed.lean ====
section
/-! DEFINITION. Which commands and events their sources can send: the operands that no source produces are excluded here
(log 32). Every value of a payload byte is well formed, since the manual gives each a reply. -/

namespace Sys2Proof

open Sys2Proof.Machine

/-- The command kinds of Table 9-4. -/
def commandKinds : List Byte :=
  [0x01, 0x02, 0x03, 0x04, 0x05, 0x06, 0x07, 0x08, 0x10, 0x11, 0x12, 0x13, 0x14, 0x15] ++
  [0x20, 0x21, 0x22, 0x23, 0x24, 0x25, 0x26, 0x27, 0x28, 0x29, 0x2A] ++
  [0x30, 0x31, 0x32, 0x33, 0x34, 0x35, 0x36, 0x37, 0x38, 0x39] ++
  [0x40, 0x41, 0x42, 0x43, 0x44, 0x50]

/-- A payload of 0..512 bytes (R182). -/
def payloadFits (payload : List Byte) : Bool := payload.length ≤ Config.payloadMax

/-- The bytes of a frame whose assembly is not over (R184 to R186): they begin with the sync byte, a payload length that has
arrived is at most 512, and the last check value byte has not arrived. -/
def isPartial : List Byte → Bool
  | [] => false
  | [b0] => b0 == syncByte
  | [b0, _] => b0 == syncByte
  | b0 :: hi :: lo :: rest =>
    b0 == syncByte && word2 hi lo ≤ Config.payloadMax && rest.length + 3 < word2 hi lo + 7

/-- A command or event that its source can send. -/
def Instr.wellFormed : Instr → Bool
  | .statusGet _ p | .noticeMask _ p | .attnSet _ p | .supervisionSet _ p | .settingsSave _ p | .profileSet _ p
  | .factoryDefaults _ p | .wallPolicy _ p | .wallSet _ p | .segmentPrivacy _ p | .fadeTime _ p | .roomTemplate _ p
  | .hallGet _ p | .linePower _ p | .lineWake _ p | .lineStandby _ p | .lineOff _ p | .lineCensus _ p | .lineGet _ p
  | .seatPlace _ p | .seatTrim _ p | .seatGet _ p | .seatText _ p | .lineIndicators _ p | .micOpen _ p | .micClose _ p
  | .roomCloseAll _ p | .requestAdd _ p | .requestRemove _ p | .grantNext _ p | .queueClear _ p | .roomGet _ p
  | .speechExtend _ p | .talkTotalClear _ p | .channelSetup _ p | .boothSetup _ p | .deskAssign _ p | .languageGet _ p
  | .monitorRoute _ p | .clipGet _ p => payloadFits p
  | .restart _ p _ => payloadFits p
  | .unknownKind k _ p => payloadFits p && !commandKinds.contains k
  | .frameCheckFailed k t p c => payloadFits p && c != frameCheck k t p
  | .frameLengthExcess n => Config.payloadMax < n.toNat
  | .transferStart | .outboundFrameSent | .attnPulse | .hostAbsenceExpiry | .powerUp _ | .powerLoss | .resetAssert
  | .resetRelease _ | .wallMeasurement _ | .remap | .fadeComplete | .remapTimerCheck | .saveWriteComplete _ => true
  | .chipSelectRelease received => received.isEmpty || isPartial received
  | .settleExpiry k => isWall k
  | .audioFrame samples => samples.length == 256
  | .indicatorRefresh part =>
    part.reached.length ≤ 4 && part.reached.all (· ≤ 64) && part.silent.all isSeat
  | .silentUnit l | .overcurrent l | .standbyCurrentMeasurement l _ | .wakeEnd l | .censusSlot l _ | .censusComplete l =>
    isLine l
  | .speechSecond n | .flashEnd n | .talk n | .priorityDown n | .priorityUp n | .outputSelect n _ | .inputSelect n _
  | .listenSelect n _ => isSeat n

end Sys2Proof
end

