-- ==== Sys2Proof/Decode.lean ====
section
/-! DEFINITION. Reading commands. The opcode table gives no row any bits, so no table word spells a command (log 3). The
bytes of a frame do: the inbound assembly of R184 to R186 and the command kinds of Table 9-4 in both directions. -/

namespace Sys2Proof

open Sys2Proof.Machine

/-- The command that a table word spells: no row of spec/opcode_table.json gives bits, so none does (log 3). -/
def decodeTableWord (_nbits _w : Nat) : Option Instr := none

/-- The command of a valid frame by its kind (Table 9-4); `walls` is what the wall inputs would read at a RESTART. -/
def commandOf (walls : Readings) (kind tag : Byte) (payload : List Byte) : Instr :=
  match kind.toNat with
  | 0x01 => .statusGet tag payload
  | 0x02 => .restart tag payload walls
  | 0x03 => .noticeMask tag payload
  | 0x04 => .attnSet tag payload
  | 0x05 => .supervisionSet tag payload
  | 0x06 => .settingsSave tag payload
  | 0x07 => .profileSet tag payload
  | 0x08 => .factoryDefaults tag payload
  | 0x10 => .wallPolicy tag payload
  | 0x11 => .wallSet tag payload
  | 0x12 => .segmentPrivacy tag payload
  | 0x13 => .fadeTime tag payload
  | 0x14 => .roomTemplate tag payload
  | 0x15 => .hallGet tag payload
  | 0x20 => .linePower tag payload
  | 0x21 => .lineWake tag payload
  | 0x22 => .lineStandby tag payload
  | 0x23 => .lineOff tag payload
  | 0x24 => .lineCensus tag payload
  | 0x25 => .lineGet tag payload
  | 0x26 => .seatPlace tag payload
  | 0x27 => .seatTrim tag payload
  | 0x28 => .seatGet tag payload
  | 0x29 => .seatText tag payload
  | 0x2A => .lineIndicators tag payload
  | 0x30 => .micOpen tag payload
  | 0x31 => .micClose tag payload
  | 0x32 => .roomCloseAll tag payload
  | 0x33 => .requestAdd tag payload
  | 0x34 => .requestRemove tag payload
  | 0x35 => .grantNext tag payload
  | 0x36 => .queueClear tag payload
  | 0x37 => .roomGet tag payload
  | 0x38 => .speechExtend tag payload
  | 0x39 => .talkTotalClear tag payload
  | 0x40 => .channelSetup tag payload
  | 0x41 => .boothSetup tag payload
  | 0x42 => .deskAssign tag payload
  | 0x43 => .languageGet tag payload
  | 0x44 => .monitorRoute tag payload
  | 0x50 => .clipGet tag payload
  | _ => .unknownKind kind tag payload

/-- A frame from its sync byte on (R184, R185): a payload length above 512, a frame not yet complete, a wrong check value, or
a command. -/
def readFrame (walls : Readings) (bytes : List Byte) : Instr :=
  match bytes with
  | sync :: hi :: lo :: rest =>
    let n := word2 hi lo
    if Config.payloadMax < n then .frameLengthExcess (hi ++ lo)
    else
      match rest with
      | kind :: tag :: body =>
        match body.drop n with
        | c1 :: c0 :: _ =>
          if c1 ++ c0 = frameCheck kind tag (body.take n) then commandOf walls kind tag (body.take n)
          else .frameCheckFailed kind tag (body.take n) (c1 ++ c0)
        | _ => .chipSelectRelease (sync :: hi :: lo :: rest)
      | _ => .chipSelectRelease (sync :: hi :: lo :: rest)
  | _ => .chipSelectRelease bytes

/-- What the inbound bytes of one transfer are taken as (R184): the bytes before the first sync byte are skipped, and what
follows the first frame is ignored. Without a complete frame it is the release of chip select that takes them (R186). -/
def readInbound (walls : Readings) (bytes : List Byte) : Instr :=
  readFrame walls (bytes.dropWhile fun b => b != syncByte)

/-- The frame a host command travels in: its kind of Table 9-4 (R182). An event has none. -/
def frameOf : Instr → Option Frame
  | .statusGet t p => some ⟨0x01#8, t, p⟩
  | .restart t p _ => some ⟨0x02#8, t, p⟩
  | .noticeMask t p => some ⟨0x03#8, t, p⟩
  | .attnSet t p => some ⟨0x04#8, t, p⟩
  | .supervisionSet t p => some ⟨0x05#8, t, p⟩
  | .settingsSave t p => some ⟨0x06#8, t, p⟩
  | .profileSet t p => some ⟨0x07#8, t, p⟩
  | .factoryDefaults t p => some ⟨0x08#8, t, p⟩
  | .wallPolicy t p => some ⟨0x10#8, t, p⟩
  | .wallSet t p => some ⟨0x11#8, t, p⟩
  | .segmentPrivacy t p => some ⟨0x12#8, t, p⟩
  | .fadeTime t p => some ⟨0x13#8, t, p⟩
  | .roomTemplate t p => some ⟨0x14#8, t, p⟩
  | .hallGet t p => some ⟨0x15#8, t, p⟩
  | .linePower t p => some ⟨0x20#8, t, p⟩
  | .lineWake t p => some ⟨0x21#8, t, p⟩
  | .lineStandby t p => some ⟨0x22#8, t, p⟩
  | .lineOff t p => some ⟨0x23#8, t, p⟩
  | .lineCensus t p => some ⟨0x24#8, t, p⟩
  | .lineGet t p => some ⟨0x25#8, t, p⟩
  | .seatPlace t p => some ⟨0x26#8, t, p⟩
  | .seatTrim t p => some ⟨0x27#8, t, p⟩
  | .seatGet t p => some ⟨0x28#8, t, p⟩
  | .seatText t p => some ⟨0x29#8, t, p⟩
  | .lineIndicators t p => some ⟨0x2A#8, t, p⟩
  | .micOpen t p => some ⟨0x30#8, t, p⟩
  | .micClose t p => some ⟨0x31#8, t, p⟩
  | .roomCloseAll t p => some ⟨0x32#8, t, p⟩
  | .requestAdd t p => some ⟨0x33#8, t, p⟩
  | .requestRemove t p => some ⟨0x34#8, t, p⟩
  | .grantNext t p => some ⟨0x35#8, t, p⟩
  | .queueClear t p => some ⟨0x36#8, t, p⟩
  | .roomGet t p => some ⟨0x37#8, t, p⟩
  | .speechExtend t p => some ⟨0x38#8, t, p⟩
  | .talkTotalClear t p => some ⟨0x39#8, t, p⟩
  | .channelSetup t p => some ⟨0x40#8, t, p⟩
  | .boothSetup t p => some ⟨0x41#8, t, p⟩
  | .deskAssign t p => some ⟨0x42#8, t, p⟩
  | .languageGet t p => some ⟨0x43#8, t, p⟩
  | .monitorRoute t p => some ⟨0x44#8, t, p⟩
  | .clipGet t p => some ⟨0x50#8, t, p⟩
  | .unknownKind k t p => some ⟨k, t, p⟩
  | .frameCheckFailed .. | .frameLengthExcess _ | .transferStart | .outboundFrameSent | .chipSelectRelease _
  | .attnPulse | .hostAbsenceExpiry | .powerUp _ | .powerLoss | .resetAssert | .resetRelease _ | .wallMeasurement _
  | .settleExpiry _ | .audioFrame _ | .remap | .fadeComplete | .remapTimerCheck | .speechSecond _ | .indicatorRefresh _
  | .silentUnit _ | .overcurrent _ | .standbyCurrentMeasurement .. | .wakeEnd _ | .censusSlot .. | .censusComplete _
  | .flashEnd _ | .saveWriteComplete _ | .talk _ | .priorityDown _ | .priorityUp _ | .outputSelect .. | .inputSelect ..
  | .listenSelect .. => none

/-- The inbound bytes of a host command (R182). -/
def encode (i : Instr) : List Byte := ((frameOf i).map Frame.bytes).getD []

end Sys2Proof
end

