-- ==== Sys2Proof/Machine/FloorOps.lean ====
section
/-! DEFINITION. The floor controller's shared procedures: opening, closing and queuing (5.3), priority (5.5), the advance
rule (5.6), changes of the settings in force (5.8), handovers (5.9) and the speech timer's check (6.2). -/

namespace Sys2Proof.Machine

/-! ### Closing, the timer check, and opening -/

/-- The seconds of a closed turn go to the seat's talk total, which stays at its largest value (R123). -/
def State.addTalk (s : State) (n seconds : Nat) : State :=
  s.setSeat n fun t => { t with talkTotal := min Config.talkTotalMax (t.talkTotal + seconds) }

/-- Close a floor microphone (R85); nothing where the seat has no entry. -/
def State.closeMic (s : State) (n : Nat) (cause : CloseCause) : State :=
  match s.speaker n with
  | none => s
  | some e =>
    ({ s with flc := { s.flc with speakers := s.flc.speakers.filter fun x => x.seat != n } }.addTalk n e.seconds).notify
      (.micClosed n (s.seatRoomCode n) e.kind cause e.seconds)

/-- Close the microphones of seats in order. -/
def State.closeMics (s : State) (ns : List Nat) (cause : CloseCause) : State :=
  ns.foldl (fun t n => t.closeMic n cause) s

/-- Set or clear the warned flag at a timer check (R118, first two cases). -/
def State.checkWarning (s : State) (n : Nat) (e : Speaker) (t : Template) : State :=
  if warningHolds t e && !e.warned then
    (s.setSpeaker n fun x => { x with warned := true }).notify
      (.speechWarning n (s.seatRoomCode n) e.seconds (allowance t.speechLimit e.extension))
  else if !warningHolds t e && e.warned then s.setSpeaker n fun x => { x with warned := false }
  else s

/-- The expiry cases of a timer check (R118): `held` is whether the expiry condition held before the event. -/
def State.checkExpiry (s : State) (n : Nat) (e : Speaker) (t : Template) (held : Bool) : State :=
  if !expiryHolds t.speechLimit e then s
  else
    let told := if held then s else
      s.notify (.speechExpired n (s.seatRoomCode n) e.seconds (allowance t.speechLimit e.extension) t.expiryAction)
    match t.expiryAction with
    | .close => told.closeMic n .speechTime
    | .notify => told

/-- The timer check of one delegate entry against its room's settings in force (R117, R118). A CHAIR entry has none. -/
def State.timerCheck (s : State) (n : Nat) (held : Bool) : State :=
  match s.speaker n with
  | none => s
  | some e =>
    if e.kind = .delegate then
      (s.checkWarning n e (s.settings (s.seatRoomCode n))).checkExpiry n e (s.settings (s.seatRoomCode n)) held
    else s

/-- A new speaker-list entry (R84). -/
def newSpeaker (n : Nat) (kind : Kind) (stamp : Stamp) (origin : OpenOrigin) : Speaker :=
  { seat := n, kind := kind, stamp := stamp, seconds := 0, frames := 0, extension := 0, muted := false, warned := false,
    byPriority := origin == .priority, secondDue := false, oldLimit := none }

/-- Open a floor microphone (R84): a new stamp, an entry at the tail, MIC_OPENED, and the timer check of the open (R117). -/
def State.openMic (s : State) (n : Nat) (kind : Kind) (origin : OpenOrigin) : State :=
  let t := s.issueStamp
  (({ t with flc := { t.flc with speakers := t.flc.speakers ++ [newSpeaker n kind t.stamp origin] } }).notify
    (.micOpened n (s.seatRoomCode n) kind origin)).timerCheck n false

/-! ### Requests -/

/-- Add a request of the class and stamp given to the queue of the seat's room (R86). -/
def State.addRequest (s : State) (n : Nat) (cls : RequestClass) (stamp : Stamp) : State :=
  let t := { s with flc := { s.flc with queue := insertBefore Request.before ⟨n, cls, stamp⟩ s.flc.queue } }
  t.notify (.requestAdded n (s.seatRoomCode n) cls
    (((t.queueIn (s.seatRoomCode n)).findIdx fun q => q.seat == n) + 1))

/-- Add a NORMAL request, which takes a new stamp (R80). -/
def State.addNormal (s : State) (n : Nat) : State := s.issueStamp.addRequest n .normal (nextStamp s.stamp)

/-- Remove a seat's request (R86); nothing where it has none. -/
def State.removeRequest (s : State) (n : Nat) (cause : RemovalCause) : State :=
  match s.request n with
  | none => s
  | some _ =>
    ({ s with flc := { s.flc with queue := s.flc.queue.filter fun q => q.seat != n } }).notify
      (.requestRemoved n (s.seatRoomCode n) cause)

/-- Remove the requests of seats in order. -/
def State.removeRequests (s : State) (ns : List Nat) (cause : RemovalCause) : State :=
  ns.foldl (fun t n => t.removeRequest n cause) s

/-- Close every DELEGATE entry of a room in list order. -/
def State.closeDelegates (s : State) (lead : Nat) (cause : CloseCause) : State :=
  s.closeMics ((s.delegatesIn lead).map (·.seat)) cause

/-- Remove every request of a room in queue order. -/
def State.clearQueue (s : State) (lead : Nat) (cause : RemovalCause) : State :=
  s.removeRequests ((s.queueIn lead).map (·.seat)) cause

/-- A refused press: MIC_REFUSED and the DENIED flash (R87). -/
def State.refusePress (s : State) (n : Nat) (reason : ResultCode) : State :=
  (s.notify (.micRefused n (s.seatRoomCode n) reason)).flash n

/-! ### Priority -/

/-- Set the muted flag of every DELEGATE entry of a room; a muted timer is paused, short of a second that has come due and
was not taken (R91, R119). -/
def State.muteRoom (s : State) (lead : Nat) : State :=
  s.mapSpeakers fun e =>
    if s.inRoom lead e.seat && e.kind == .delegate then { e with muted := true, secondDue := false } else e

/-- Clear the muted flag of every entry of a room (R93). -/
def State.unmuteRoom (s : State) (lead : Nat) : State :=
  s.mapSpeakers fun e => if s.inRoom lead e.seat then { e with muted := false } else e

/-- The closures and removals of CLOSE_ALL (R91, R106, R112). -/
def State.closeAll (s : State) (lead : Nat) : State := (s.closeDelegates lead .priority).clearQueue lead .priority

/-- Carry out a room's priority action (R91). -/
def State.priorityAction (s : State) (lead : Nat) : State :=
  match (s.settings lead).priorityAction with
  | .muteOnly => s.muteRoom lead
  | .closeAll => s.closeAll lead

/-- Priority ends in a room (R93): unmuting, and PRIORITY_OFF with the chair whose removal emptied the set. -/
def State.endPriority (s : State) (lead chair : Nat) : State := (s.unmuteRoom lead).notify (.priorityOff lead chair)

/-- Write the hall's holder set. -/
def State.setHolders (s : State) (hs : List Nat) : State := { s with flc := { s.flc with holders := hs } }

/-- Take a chair out of the holder set of its room; priority ends where the set becomes empty (R92, R93, R109). -/
def State.leaveHolders (s : State) (n : Nat) : State :=
  if s.flc.holders.contains n then
    let t := s.setHolders (s.flc.holders.filter (· != n))
    if (t.holdersIn (s.seatRoomCode n)).isEmpty then t.endPriority (s.seatRoomCode n) n else t
  else s

/-! ### The advance rule -/

/-- Grant a request: it is removed with cause GRANTED and its microphone opened with origin GRANTED (R95, R102). -/
def State.grant (s : State) (n : Nat) : State := (s.removeRequest n .granted).openMic n .delegate .granted

/-- At most `fuel` grants: while a slot is free, the first request by class and stamp whose room is eligible (R95). -/
def State.advanceUpTo : Nat → State → State
  | 0, s => s
  | fuel + 1, s =>
    if s.slotFree then
      match s.flc.queue.find? fun q => s.eligible (s.seatRoomCode q.seat) with
      | none => s
      | some q => State.advanceUpTo fuel (s.grant q.seat)
    else s

/-- The advance rule (R95): every grant shortens the queue, so as many grants as requests suffice. -/
def State.advance (s : State) : State := State.advanceUpTo s.flc.queue.length s

/-! ### Limits and changes of the settings in force -/

/-- Return one closed delegate to its room's queue, or drop it where no request entry is left (R107). -/
def State.returnDelegate (s : State) (cause : CloseCause) (e : Speaker) : State :=
  if s.freeRequests = 0 then s.notify (.requestDropped e.seat (s.seatRoomCode e.seat) cause)
  else s.addRequest e.seat .returned e.stamp

/-- Close the delegates above a room's limit in force, youngest first, and return them in QUEUED mode, oldest first
(R107). -/
def State.closeExcess (s : State) (lead : Nat) (cause : CloseCause) : State :=
  let excess := (s.delegatesIn lead).drop (s.settings lead).limit
  let t := s.closeMics (excess.reverse.map (·.seat)) cause
  if (s.settings lead).mode = .queued then excess.foldl (fun u e => u.returnDelegate cause e) t else t

/-- The timer check of every DELEGATE entry of a room in list order; `limitOf` gives the speech limit against which the
expiry condition before the event is judged (R121, R122). -/
def State.checkRoom (s : State) (lead : Nat) (limitOf : Speaker → Nat) : State :=
  (s.delegatesIn lead).foldl (fun t e => t.timerCheck e.seat (expiryHolds (limitOf e) e)) s

/-- Bring a room's floor record into line with its new settings in force, steps 1 to 5 of R104; `old` are the settings that
were in force. A step whose setting has not changed does nothing. Whether an expiry condition held before is judged against
`old`, between a remap and its timer check too (log 45). -/
def State.applySettings (s : State) (lead : Nat) (old : Template) : State :=
  let new := s.settings lead
  let s1 := if old.mode = .queued ∧ new.mode ≠ .queued then s.clearQueue lead .mode else s
  let s2 := if old.priorityAction = .muteOnly ∧ new.priorityAction = .closeAll ∧ !(s1.holdersIn lead).isEmpty then
      s1.closeAll lead else s1
  let s3 := if old.limit ≠ new.limit then s2.closeExcess lead .limit else s2
  if old.speechLimit ≠ new.speechLimit ∨ old.warningLead ≠ new.warningLead ∨ old.expiryAction ≠ new.expiryAction then
    s3.checkRoom lead fun _ => old.speechLimit
  else s3

/-! ### Handovers from the seat lines -/

/-- The close cause a leaving line hands (Table 5-4). -/
def LeaveCause.close : LeaveCause → CloseCause
  | .standby => .standby
  | .census => .census
  | .lineOff => .lineOff
  | .lineFault => .lineFault

/-- The removal cause a leaving line hands (Table 5-4). -/
def LeaveCause.removal : LeaveCause → RemovalCause
  | .standby => .standby
  | .census => .census
  | .lineOff => .lineOff
  | .lineFault => .lineFault

/-- Close and remove what one seat holds on the floor. -/
def State.clearSeat (s : State) (n : Nat) (close : CloseCause) (removal : RemovalCause) : State :=
  (s.closeMic n close).removeRequest n removal

/-- End priority in each room whose holder set was not empty in `old` and is empty now, in order of leading segment; the
chair named is the last of the set in seat order (R108, log 15). -/
def State.endEmptied (s : State) (old : State) : State :=
  s.leads.foldl (fun t lead =>
    match (old.holdersIn lead).getLast? with
    | some chair => if (t.holdersIn lead).isEmpty then t.endPriority lead chair else t
    | none => t) s

/-- A line that leaves ACTIVE, at the floor controller (R108). -/
def State.floorLineLeaves (s : State) (l : Nat) (cause : LeaveCause) : State :=
  let s1 := (seatsOfLine l).foldl (fun t n => t.clearSeat n cause.close cause.removal) s
  let s2 := s1.setHolders (s1.flc.holders.filter fun n => lineOfSeat n != l)
  (s2.endEmptied s1).advance

/-! ### Presses -/

/-- The oldest open delegate of a room gives its slot to the pressing seat (R89). -/
def State.displace (s : State) (lead n : Nat) : State :=
  match s.delegatesIn lead with
  | [] => s.refusePress n .poolFull
  | e :: _ => (s.closeMic e.seat .override).openMic n .delegate .override

/-- A delegate's TALK that finds the seat neither open nor queued: Table 5-2. -/
def State.talkByMode (s : State) (lead n : Nat) : State :=
  match (s.settings lead).mode with
  | .queued => if s.freeRequests = 0 then s.refusePress n .queueFull else s.addNormal n
  | .direct =>
    if !(s.holdersIn lead).isEmpty then s.refusePress n .priorityHeld
    else if !s.belowLimit lead then s.refusePress n .limitReached
    else if !s.slotFree then s.refusePress n .poolFull
    else s.openMic n .delegate .press
  | .override =>
    if !(s.holdersIn lead).isEmpty then s.refusePress n .priorityHeld
    else if s.belowLimit lead && s.slotFree then s.openMic n .delegate .press
    else s.displace lead n

/-- A TALK from a delegate seat (R88). -/
def State.delegateTalk (s : State) (n : Nat) : State :=
  let lead := s.seatRoomCode n
  if (s.speaker n).isSome then
    if (s.settings lead).delegateClose then s.closeMic n .seat else s
  else if (s.request n).isSome then s.removeRequest n .seatCancel
  else s.talkByMode lead n

/-- A TALK from a chair seat toggles its microphone (R90). -/
def State.chairTalk (s : State) (n : Nat) : State :=
  if (s.speaker n).isSome then s.closeMic n .seat
  else if s.slotFree then s.openMic n .chair .press
  else s.refusePress n .poolFull

/-- The chair's own microphone at PRIORITY_DOWN (R91, last part). -/
def State.priorityMic (s : State) (n : Nat) : State :=
  if (s.speaker n).isSome then s
  else if s.slotFree then s.openMic n .chair .priority
  else s.refusePress n .poolFull

/-- A PRIORITY_DOWN from a chair (R91). -/
def State.chairPriorityDown (s : State) (n : Nat) : State :=
  if s.flc.holders.contains n then s
  else
    let lead := s.seatRoomCode n
    let t := s.setHolders (insertBefore (fun x y => decide (x < y)) n s.flc.holders)
    let u := if (s.holdersIn lead).isEmpty then (t.notify (.priorityOn lead [n])).priorityAction lead else t
    u.priorityMic n

/-- A PRIORITY_UP from a chair (R92). -/
def State.chairPriorityUp (s : State) (n : Nat) : State :=
  if s.flc.holders.contains n then
    let t := s.setHolders (s.flc.holders.filter (· != n))
    let u := match s.speaker n with
      | some e => if e.byPriority then t.closeMic n .seat else t
      | none => t
    if (u.holdersIn (s.seatRoomCode n)).isEmpty then u.endPriority (s.seatRoomCode n) n else u
  else s

/-! ### The floor remap -/

/-- Every delegate entry whose room is new after the remap remembers the speech limit of the room it leaves (R122). -/
def State.rememberLimits (s : State) (newJoins : List Join) (newRooms : List Nat) : State :=
  s.mapSpeakers fun e =>
    match s.placement e.seat with
    | some g =>
      if newRooms.contains (leadOf newJoins g) then { e with oldLimit := some (s.settings (s.roomOf g)).speechLimit }
      else e
    | none => e

/-- Step 4 of the floor remap for one new room (R112). -/
def State.remapPriority (s : State) (lead : Nat) : State :=
  if (s.holdersIn lead).isEmpty then s.unmuteRoom lead
  else (s.notify (.priorityOn lead (s.holdersIn lead))).priorityAction lead

/-- Step 6 of the floor remap for one new room (R112). -/
def State.remapMode (s : State) (lead : Nat) : State :=
  if (s.settings lead).mode = .queued then s else s.clearQueue lead .mode

/-- Steps 4 to 7 of the floor remap over the new rooms; steps 1 to 3 move every entry to the room that holds its seat's
segment, which is where the hall's lists place it once the map has changed (R111, R112, log 10). -/
def State.floorRemap (s : State) (newRooms : List Nat) : State :=
  let s4 := newRooms.foldl State.remapPriority s
  let s5 := newRooms.foldl (fun t lead => t.closeExcess lead .regroupLimit) s4
  let s6 := newRooms.foldl State.remapMode s5
  { s6 with flc := { s6.flc with checksWaiting := newRooms } }.advance

end Sys2Proof.Machine
end

