-- ==== Sys2Proof/Machine/PortOps.lean ====
section
/-! DEFINITION. The control port's shared procedures: replies and their parts (9.4), the taking of a valid frame (9.3, 9.7)
and of a command (R187), the ATTN settings (R198), and the frames that are discarded (R184 to R186). -/

namespace Sys2Proof.Machine

/-! ### Replies -/

/-- What a command is answered with: one frame with a result code and reply data, a report, or no frame (RESTART). -/
inductive Reply where
  | plain (code : ResultCode) (data : List Byte)
  | report (bytes : List Byte)
  | silent
deriving DecidableEq, Repr

/-- OK without reply data. -/
def Reply.done : Reply := .plain .ok []

/-- A refusal: the result code alone (R188). -/
def Reply.refuse (code : ResultCode) : Reply := .plain code []

/-- The kind of a reply: the command's kind plus 80h, FFh for a kind of 7Fh or above (R188). -/
def replyKind (kind : Byte) : Byte := if kind.toNat < 0x7F then kind + 0x80#8 else 0xFF#8

/-- The number of parts of a report (R189). -/
def partCount (n : Nat) : Nat := if n ≤ Config.partBytes then 1 else (n + Config.partBytes - 1) / Config.partBytes

/-- The report bytes of part i, counting from 0 (R189). -/
def partOf (bytes : List Byte) (i : Nat) : List Byte := (bytes.drop (Config.partBytes * i)).take Config.partBytes

/-- The payloads of a report reply: result code, part number, part count and the part's bytes (R189). -/
def reportPayloads (bytes : List Byte) : List (List Byte) :=
  (List.range (partCount bytes.length)).map fun i =>
    [ResultCode.ok.byte, byte (i + 1), byte (partCount bytes.length)] ++ partOf bytes i

/-- The payloads of a reply, one for each frame. -/
def Reply.payloads : Reply → List (List Byte)
  | .plain code data => [code.byte :: data]
  | .report bytes => reportPayloads bytes
  | .silent => []

/-- The frames of a reply to a command of the kind and tag given (R188). -/
def Reply.frames (r : Reply) (kind tag : Byte) : List Frame :=
  r.payloads.map fun p => { kind := replyKind kind, tag := tag, payload := p }

/-- The reply queue has places for n frames (R187, step 1). -/
def State.hasRoom (s : State) (n : Nat) : Bool := s.ctp.replies.length + n ≤ Config.replyPlaces

/-- What a command's owner does: the state it leaves and the reply it gives. -/
abbrev Action := State → State × Reply

/-- A command of Table 9-4 or an unknown kind is handled (R187): without room for its reply it is not executed and
COMMAND_DROPPED is queued; otherwise its reply joins the queue in the same event. A reply needs at least one place. -/
def State.handle (s : State) (kind tag : Byte) (body : Action) : State :=
  let r := body s
  let frames := r.2.frames kind tag
  if s.hasRoom (max 1 frames.length) then r.1.queueReplies frames else s.notify (.commandDropped kind tag)

/-! ### Valid frames -/

/-- No frame is assembled: outside a transfer, which after a start is until the first that begins (R184, R204), and once a
frame of the transfer has been taken or discarded, the rest of its inbound bytes being ignored (R184, log 8). -/
def State.inboundIgnored (s : State) : Bool :=
  match s.ctp.transfer with
  | some t => t.inboundDone
  | none => true

/-- The inbound frame of the transfer has been taken or discarded (R184). -/
def State.markInbound (s : State) : State :=
  { s with ctp := { s.ctp with transfer := s.ctp.transfer.map fun t => { t with inboundDone := true } } }

/-- Clear the autonomous flag, with HOST_BACK and the floor controller's advance rule (R201). -/
def State.endAutonomy (s : State) : State :=
  if s.ctp.autonomous then
    (({ s with ctp := { s.ctp with autonomous := false } }).notify (.hostBack s.ctp.absenceCount)).advance
  else s

/-- The host absence timer starts again from the beginning (R199). -/
def State.restartAbsence (s : State) : State := { s with ctp := { s.ctp with absenceFrames := 0 } }

/-- A valid frame acts on the host absence timer and the autonomous flag before its command is handled (R185, R201). -/
def State.hostHeard (s : State) : State := s.endAutonomy.restartAbsence

/-- A valid frame is taken (R185, R187). Held, the part takes no frame (R213); where none is assembled it passes unseen (R184,
R204). -/
def State.takeFrame (s : State) (kind tag : Byte) (body : Action) : State :=
  if !s.running || s.inboundIgnored then s else s.markInbound.hostHeard.handle kind tag body

/-- A command whose payload length differs from that of Table 9-4 (R187, step 3). -/
def badLength (s : State) : State × Reply := (s, .refuse .badLength)

/-- A command without fields (Table 9-4). -/
def noFields (payload : List Byte) (act : Action) : Action := if payload.isEmpty then act else badLength

/-! ### Discarded frames -/

/-- An inbound frame is discarded with FRAME_ERROR (R184, R185). -/
def State.discardFrame (s : State) (n : Notice) : State :=
  if !s.running || s.inboundIgnored then s else s.markInbound.notify n

/-- A byte of a partial frame, 0 where it has not arrived (R186). -/
def receivedByte (received : List Byte) (i : Nat) : Byte := received.getD i 0#8

/-- The payload length of a partial frame: 0 until both its bytes have arrived (R186, log 37). -/
def receivedLength (received : List Byte) : Nat :=
  if received.length < 3 then 0 else word2 (receivedByte received 1) (receivedByte received 2)

/-- The FRAME_ERROR of a frame cut short, from its bytes from the sync byte on (R186). -/
def truncatedError (received : List Byte) : Notice :=
  .frameError .truncated received.length (receivedLength received) (receivedByte received 3) (receivedByte received 4)

/-! ### ATTN -/

/-- The ATTN settings are replaced (R198): a pulse in progress ends, with no release after it before the next may begin
(log 42), and the pending pulses are the frames in both queues in PULSE mode with the enable ON (the reply adds its own as
it joins), otherwise 0. -/
def State.setAttn (s : State) (a : AttnSettings) : State :=
  let c := { s.ctp with attn := a, pulse := .idle }
  { s with ctp := { c with
      pulses := if c.pulsing then min Config.pulseMax (c.replies.length + c.notices.length) else 0 } }

end Sys2Proof.Machine
end

