-- ==== Sys2Proof/Machine/HallOps.lean ====
section
/-! DEFINITION. The partition unit's shared procedures: from reading to target (1.4, 1.5), and the partition sequencer's
receiving of a target vector (2.3 to 2.6) and movement of the fades (2.2). -/

namespace Sys2Proof.Machine

/-! ### The sequencer receives a target vector -/

/-- A room's direction after a target vector is received: affected rooms turn DOWN or go on falling; a falling room that is
affected no longer turns UP from its present position; the others go on as they were (R29 to R32, R38). -/
def Room.retarget (affected : List Nat) (r : Room) : Room :=
  if affected.contains r.lead then { r with direction := .down }
  else if r.direction = .down then { r with direction := .up }
  else r

/-- The affected set a target vector gives against the map in force (R28). -/
def State.affectedBy (s : State) (targets : List Join) : List Nat := roomsNotIn (mapOf s.joins) (mapOf targets)

/-- Record a target vector: the target vector, the affected set and every room's direction. The remap condition is tested
again at the next audio frame (R33). -/
def State.retarget (s : State) (targets : List Join) : State :=
  let affected := s.affectedBy targets
  { s with ptu := { s.ptu with
      targets := targets
      affected := affected
      rooms := s.ptu.rooms.map (Room.retarget affected)
      remapDue := false
      fadeDone := false } }

/-- Capture K from the live fade time, every room standing at K (R25, R29). -/
def State.captureK (s : State) : State :=
  let k := s.ptu.fadeTime * Config.framesPerMs
  { s with ptu := { s.ptu with k := k, rooms := s.ptu.rooms.map fun r => { r with position := k } } }

/-- Write the sequencer's state. -/
def State.setSeq (s : State) (q : SeqState) : State := { s with ptu := { s.ptu with seq := q } }

/-- A regroup begins or changes: the state becomes FADE_OUT and REGROUP_BEGUN is sent (R29, R30, R32, R38). -/
def State.beginRegroup (s : State) (targets : List Join) (occasion : Occasion) : State :=
  let t := (s.retarget targets).setSeq .fadeOut
  t.notify (.regroupBegun occasion (mapOf s.joins) (mapOf targets) t.ptu.affected t.ptu.k)

/-- The regroup is cancelled (R31): every falling room turns UP, the affected set empties, and the sequencer stays in
FADE_OUT. -/
def State.cancelRegroup (s : State) (targets : List Join) : State :=
  (s.retarget targets).notify (.regroupCancelled (mapOf s.joins) (mapOf s.ptu.targets)
    ((s.ptu.rooms.filter fun r => r.direction == .down).map (·.lead)))

/-- The sequencer receives the target vector of the walls (R10, R29 to R32, R38). -/
def State.receiveTargets (s : State) : State :=
  let targets := s.wallTargets
  if targets = s.joins then
    match s.ptu.seq with
    | .fadeOut => if s.ptu.affected.isEmpty then s.retarget targets else s.cancelRegroup targets
    | .idle | .fadeIn => s.retarget targets
  else
    match s.ptu.seq with
    | .idle => s.captureK.beginRegroup targets .new
    | .fadeOut => s.beginRegroup targets (if s.ptu.affected.isEmpty then .afterCancel else .revised)
    | .fadeIn => s.beginRegroup targets .duringFadeIn

/-! ### Requested join, privacy check, effective target -/

/-- The join a wall requests (R8): under FOLLOW from its settled state, a FAULT leaving the request as it was; under HELD
the held join. -/
def Wall.requests (w : Wall) : Join :=
  match w.set.policy with
  | .held => w.set.held
  | .follow =>
    match w.settled with
    | .opened => .joined
    | .closed => .split
    | .fault => w.requested

/-- The two segments beside wall k differ in privacy (R9). -/
def State.privacyDiffers (s : State) (k : Nat) : Bool := s.privacy k != s.privacy (k + 1)

/-- The privacy check of a wall and its effective target (R9), handed to the sequencer where it changes (R10). -/
def State.checkTarget (s : State) (k : Nat) : State :=
  let w := s.wall k
  let conflict := w.requested == .joined && s.privacyDiffers k
  let target := if conflict then .split else w.requested
  let s1 := s.setWall k fun x => { x with target := target, conflict := conflict }
  let s2 := if conflict = w.conflict then s1
    else s1.notify (.wallConflict k conflict (s.privacy k) (s.privacy (k + 1)))
  if target = w.target then s2 else s2.receiveTargets

/-- Work out a wall's requested join again, then its effective target (R8, R9). -/
def State.rework (s : State) (k : Nat) : State :=
  (s.setWall k fun w => { w with requested := w.requests }).checkTarget k

/-! ### Measurement and settling -/

/-- The candidate state of a reading (Table 1-3). -/
def bandOf (reading : Byte) : Sensor :=
  let n := reading.toNat
  if n ≤ 31 then .fault else if n ≤ 95 then .closed else if n ≤ 191 then .opened else .fault

/-- The fault kind of a reading, absent outside the FAULT bands (Table 1-3). -/
def faultKindOf (reading : Byte) : Option WireFault :=
  let n := reading.toNat
  if n ≤ 31 then some .short else if n ≤ 191 then none else some .openCircuit

/-- One measurement of a wall (R5, R6): the last reading, and the settle timer driven by the candidate. A count that
reaches 20 × the settle time in force marks the settle as expired. -/
def Wall.measure (w : Wall) (reading : Byte) : Wall :=
  let c := bandOf reading
  let w := { w with lastReading := reading, expired := false }
  match w.timer with
  | none => if c = w.settled then w else { w with timer := some ⟨c, 0⟩ }
  | some t =>
    if c = t.candidate then
      { w with timer := some ⟨c, t.count + 1⟩, expired := decide (20 * w.set.settleTime ≤ t.count + 1) }
    else if c = w.settled then { w with timer := none }
    else { w with timer := some ⟨c, 0⟩ }

/-- The settle of wall k expires (R7): the candidate becomes the settled state, with WALL_SENSOR and, for FAULT,
WALL_FAULT; then the requested join is worked out again. Nothing where no expiry has come due. -/
def State.settle (s : State) (k : Nat) : State :=
  let w := s.wall k
  match w.timer with
  | some t =>
    if w.expired then
      let kind := if t.candidate = .fault then faultKindOf w.lastReading else none
      let s1 := s.setWall k fun x =>
        { x with settled := t.candidate, faultKind := kind, timer := none, expired := false }
      let s2 := s1.notify (.wallSensor k w.settled t.candidate w.lastReading)
      let s3 := match kind with
        | some f => s2.notify (.wallFault k f w.lastReading)
        | none => s2
      s3.rework k
    else s
  | none => s

/-- The reading of wall k in one conversion. -/
def readingOf (r : Readings) : Nat → Byte
  | 1 => r.w1
  | 2 => r.w2
  | 3 => r.w3
  | 4 => r.w4
  | _ => r.w5

/-- The five walls in order. -/
def wallNumbers : List Nat := [1, 2, 3, 4, 5]

/-! ### Fades -/

/-- One audio frame's movement of a room (R26). A room turned UP before it has left K becomes STEADY there (log 12). -/
def Room.move (k : Nat) (r : Room) : Room :=
  match r.direction with
  | .steady => r
  | .down => { r with position := r.position - 1 }
  | .up => if k ≤ r.position + 1 then { r with position := k, direction := .steady }
    else { r with position := r.position + 1 }

/-- The remap condition: the affected set is not empty and every affected room is at position 0 (R33). -/
def State.remapCondition (s : State) : Bool :=
  !s.ptu.affected.isEmpty && s.ptu.affected.all fun lead => (s.room lead).position == 0

/-- No room of the map is moving, and the regroup has no remap before it: the fade-in has ended (R37), or the return after
a cancellation has (R31). -/
def State.fadeEnded (s : State) : Bool :=
  s.ptu.seq != .idle && s.ptu.affected.isEmpty && s.ptu.rooms.all fun r => !r.regrouping

/-- Every room moves, and the sequencer tests what the movement has brought (R26, R33, R37). -/
def State.moveRooms (s : State) : State :=
  let t := { s with ptu := { s.ptu with rooms := s.ptu.rooms.map (Room.move s.ptu.k) } }
  { t with ptu := { t.ptu with remapDue := t.remapCondition, fadeDone := t.fadeEnded } }

/-- The room records of the new map: an unchanged room keeps its record, a new room starts at position 0 going UP (R34). -/
def State.remappedRooms (s : State) (targets : List Join) : List Room :=
  (mapOf targets).map fun r =>
    if (mapOf s.joins).contains r then s.room r.1
    else { lead := r.1, last := r.2, position := 0, direction := .up }

/-- Steps 1 to 5 of R34: the current joins become the effective targets and the room records those of the new map. -/
def State.remapHall (s : State) : State :=
  { s with ptu := { s.ptu with
      walls := s.ptu.walls.map fun w => { w with current := w.target }
      targets := s.wallTargets
      rooms := s.remappedRooms s.wallTargets
      affected := []
      remapDue := false
      fadeDone := false } }

end Sys2Proof.Machine
end

