-- ==== Sys2Proof/Machine/LanguageOps.lean ====
section
/-! DEFINITION. The language router's shared procedures: desks on and off air, role changes, the resets of relay and listen
selections, parking, and monitor clearings (chapter 7). -/

namespace Sys2Proof.Machine

/-! ### Desks -/

/-- The booth of a seat, 0 for none. -/
def State.boothOf (s : State) (n : Nat) : Nat := (s.seat n).set.booth.getD 0

/-- The channel that a seat's desk entry chooses in its booth (R138). -/
def State.deskChannel (s : State) (n : Nat) : Nat := s.outputChannel (s.boothOf n) (s.seat n).desk.output

/-- A desk goes off (R138): its entry is no longer live, with DESK_OFF. -/
def State.deskOff (s : State) (n : Nat) (cause : DeskOffCause) : State :=
  (s.setDesk n fun d => { d with live := false }).notify (.deskOff n (s.boothOf n) (s.deskChannel n) cause)

/-- A desk goes live (R138): its entry becomes live, with DESK_LIVE. -/
def State.deskOn (s : State) (n : Nat) : State :=
  (s.setDesk n fun d => { d with live := true }).notify
    (.deskLive n (s.boothOf n) (s.deskChannel n) (s.channelRoom (s.deskChannel n)))

/-- Whether a seat is a live desk of a booth. -/
def State.deskIsLive (s : State) (n : Nat) : Bool := (s.seat n).set.booth.isSome && (s.seat n).desk.live

/-- Turn off the live desks among the seats given, in order (R141, R157). -/
def State.desksOff (s : State) (ns : List Nat) (cause : DeskOffCause) : State :=
  ns.foldl (fun t n => if t.deskIsLive n then t.deskOff n cause else t) s

/-- The DESK_OFF cause a leaving line hands (R141). -/
def LeaveCause.deskOff : LeaveCause → DeskOffCause
  | .standby => .standby
  | .census => .census
  | .lineOff => .lineOff
  | .lineFault => .lineFault

/-- A line that leaves ACTIVE, at the language router (R141). -/
def State.languageLineLeaves (s : State) (l : Nat) (cause : LeaveCause) : State :=
  s.desksOff (seatsOfLine l) cause.deskOff

/-- A TALK from a DESK seat (R138). -/
def State.deskTalk (s : State) (n : Nat) : State :=
  match (s.seat n).set.booth with
  | none => s.flash n
  | some b =>
    if !s.inService b then s.flash n
    else if s.parked b then s.flash n
    else if (s.seat n).desk.live then s.deskOff n .seat
    else
      match s.boothLive b with
      | none => s.deskOn n
      | some m =>
        match (s.booth b).interlock with
        | .refuse => s
        | .takeover => (s.deskOff m .takeover).deskOn n

/-- OUTPUT_SELECT B is open: the booth is in service with a B channel that is not SHADOW (R140, log 29). -/
def State.bOpen (s : State) (b : Nat) : Bool :=
  s.inService b && s.boothB b != 0 && !(s.role (s.boothB b)).isShadow

/-- An OUTPUT_SELECT from a desk (R140): a live desk moves to the other channel and stays live. -/
def State.deskOutput (s : State) (n : Nat) (output : OutputSelect) : State :=
  match (s.seat n).set.booth with
  | none => s.flash n
  | some b =>
    if output = .b ∧ !s.bOpen b then s.flash n
    else if (s.seat n).desk.output = output then s
    else
      let moved := fun t : State => t.setDesk n fun d => { d with output := output }
      if (s.seat n).desk.live then (moved (s.deskOff n .seat)).deskOn n else moved s

/-- An INPUT_SELECT from a desk (R142, R144). -/
def State.deskInput (s : State) (n value : Nat) : State :=
  match (s.seat n).set.booth with
  | none => s.flash n
  | some b =>
    let t := s.setDesk n fun d => { d with input := value }
    if value = 0 then t
    else if !s.relaySource b value then s.flash n
    else if t.relayCycle || t.relayTooDeep then s.flash n
    else t

/-- A LISTEN_SELECT from a seat (R145). -/
def State.seatListen (s : State) (n value : Nat) : State :=
  if s.listenValid n value then s.setSeat n fun t => { t with listen := value } else s.flash n

/-! ### Roles, selections, parking and monitors after a change -/

/-- CHANNEL_ROLE for each channel whose role or primary has changed since `old`, in channel-number order (R129). -/
def State.roleNotices (s : State) (old : State) : State :=
  s.notifyAll (channelNumbers.filterMap fun c =>
    if old.role c = s.role c then none else some (.channelRole c (s.channelRoom c) (old.role c) (s.role c)))

/-- Set to 0 each desk input select that `lost` names, with RELAY_LOST, in the order of the seats given (R134, R136,
R150). -/
def State.resetRelays (s : State) (ns : List Nat) (lost : Nat → Bool) : State :=
  (ns.filter lost).foldl (fun t n =>
    (t.setDesk n fun d => { d with input := 0 }).notify (.relayLost n (s.boothOf n) (s.seat n).desk.input)) s

/-- Set to 0 each listen channel that `lost` names, with one LISTEN_RESET for each room in which a seat was reset, in order
of leading segment (R134, R150). -/
def State.resetListens (s : State) (lost : Nat → Bool) : State :=
  let ns := seatNumbers.filter lost
  (s.setSeats ns fun _ t => { t with listen := 0 }).notifyAll (s.leads.filterMap fun lead =>
    let count := (ns.filter (s.inRoom lead)).length
    if count = 0 then none else some (.listenReset lead count))

/-- Clear each monitor route that `lost` names, with MONITOR_CLEARED (R149); M1 before M2 where one event clears both (log 46). -/
def State.clearMonitors (s : State) (lost : Route → Bool) (reason : ClearReason) : State :=
  [1, 2].foldl (fun t m =>
    if lost (s.monitor m) then (t.setMonitor m .none).notify (.monitorCleared m (s.monitor m) reason) else t) s

/-- BOOTH_UNPARKED for each booth that was parked in `old` and is not parked now (R134, R136, R157), in booth-number order, which
R134 states for a CHANNEL_SETUP and which is the model's choice at FACTORY_DEFAULTS (log 55). -/
def State.unparkNotices (s : State) (old : State) : State :=
  s.notifyAll (boothNumbers.filterMap fun b =>
    if old.parked b && !s.parked b then some (.boothUnparked b (s.boothRoom b)) else none)

/-- A booth that has become parked: its live desk goes off, then BOOTH_PARKED (R147). -/
def State.park (s : State) (b : Nat) : State :=
  let t := match s.boothLive b with
    | some n => s.deskOff n .parked
    | none => s
  t.notify (.boothParked b (s.boothRoom b) (s.booth b).a (rolePrimary (s.role (s.booth b).a)))

/-- A booth's B output is closed: a live desk on B goes off with cause SHADOW, and every desk entry on B selects A (R147). -/
def State.closeB (s : State) (b : Nat) : State :=
  (s.desksOf b).foldl (fun t n =>
    if (t.seat n).desk.output = .b then
      (if t.deskIsLive n then t.deskOff n .shadow else t).setDesk n fun d => { d with output := .a }
    else t) s

/-- Step 3 of the language remap for one booth (R150); a B channel that has become SHADOW closes B in a booth that is not in
service too (log 51). -/
def State.remapBooth (s : State) (old : State) (b : Nat) : State :=
  let t :=
    if s.parked b && !old.parked b then s.park b
    else if old.parked b && !s.parked b then s.notify (.boothUnparked b (s.boothRoom b))
    else s
  if (s.role (s.booth b).b).isShadow && !(old.role (s.booth b).b).isShadow then t.closeB b else t

/-- A desk input select that a remap loses: it names a channel outside its booth's room, or a channel that is SHADOW (R150,
step 4). -/
def State.remapLosesRelay (s : State) (n : Nat) : Bool :=
  let c := (s.seat n).desk.input
  (s.seat n).set.booth.isSome && c != 0 && (s.channelRoom c != s.boothRoom (s.boothOf n) || (s.role c).isShadow)

/-- A listen channel that a remap loses: it names a channel outside the seat's room (R150, step 5). -/
def State.remapLosesListen (s : State) (n : Nat) : Bool :=
  let c := (s.seat n).listen
  c != 0 && s.seatRoom n != some (s.channelRoom c)

/-- The language remap (R150), the map having changed; `old` is the state before the change. -/
def State.languageRemap (s : State) (old : State) : State :=
  let s2 := s.roleNotices old
  let s3 := boothNumbers.foldl (fun t b => t.remapBooth old b) s2
  let s4 := s3.resetRelays seatNumbers s3.remapLosesRelay
  s4.resetListens s4.remapLosesListen

/-- A desk input select that a change of the channel table loses: it names a channel that is no enabled, active PRIMARY
channel of its booth's room (R134, step 1). -/
def State.setupLosesRelay (s : State) (n : Nat) : Bool :=
  let c := (s.seat n).desk.input
  (s.seat n).set.booth.isSome && c != 0 && !(s.role c == .primary && s.channelRoom c == s.boothRoom (s.boothOf n))

/-- A listen channel that a change of the channel table loses (R134, step 2). -/
def State.setupLosesListen (s : State) (n : Nat) : Bool := !s.listenValid n (s.seat n).listen

/-- A source of audio that is PRIVATE: the floor of a PRIVATE segment, or a channel whose home segment is PRIVATE (R149). -/
def State.routePrivate (s : State) : Route → Bool
  | .none => false
  | .floor g => s.privacy g == .closed_
  | .channel c => s.privacy (s.channel c).home == .closed_

/-- A change of placement at the language router (R146); called when the seat stands at its new placement. -/
def State.languageSeatMoved (s : State) (n : Nat) : State :=
  if s.listenValid n (s.seat n).listen then s
  else (s.setSeat n fun t => { t with listen := 0 }).notify (.listenReset (s.seatRoomCode n) 1)

end Sys2Proof.Machine
end

