-- ==== Sys2Proof/Machine/MixOps.lean ====
section
/-! DEFINITION. The mix engine's arithmetic (chapter 8): floor buses, channel outputs, feeds, clip records. -/

namespace Sys2Proof.Machine

/-! ### Arithmetic -/

/-- The NOM attenuation a_n (R164). -/
def nomAttenuation (nom : Bool) (n : Nat) : Nat := if nom then Config.nomTable.getD n 2365 else Config.unity

/-- The combined coefficient floor((a × r × f + 2^27) / 2^28) (R165). -/
def combinedCoefficient (a r f : Nat) : Nat := (a * r * f + 2 ^ 27) / 2 ^ 28

/-- The unrounded floor bus value floor((S × c + 2^27) / 2^28) (R166, steps 1 and 2). -/
def floorValue (sum : Int) (c : Nat) : Int := (sum * (c : Int) + 2 ^ 27) / 2 ^ 28

/-- One scaling by a coefficient, rounded to nearest with halves upward: floor((x × g + 2^13) / 2^14) (R168, R169). -/
def scale (x : Int) (g : Nat) : Int := (x * (g : Int) + 2 ^ 13) / 2 ^ 14

/-- Saturation to the range of a sample (R166, R168, R169). -/
def saturate (v : Int) : Int :=
  if Config.sampleMax < v then Config.sampleMax else if v < Config.sampleMin then Config.sampleMin else v

/-- Whether and on which side saturation changes a value (R176, R177). -/
def clipSide (v : Int) : Option Polarity :=
  if Config.sampleMax < v then some .positive else if v < Config.sampleMin then some .negative else none

/-- The input sample of a seat in one audio frame (R160). -/
def sampleOf (samples : List Sample) (n : Nat) : Int := (samples.getD n 0#24).toInt

/-! ### Floor buses -/

/-- The contributors to a room's floor bus: its unmuted entries (R163). -/
def State.contributors (s : State) (lead : Nat) : List Speaker := (s.speakersIn lead).filter fun e => !e.muted

/-- The exact sum of the contributors' products (R163). -/
def State.floorSum (s : State) (samples : List Sample) (lead : Nat) : Int :=
  ((s.contributors lead).map fun e => sampleOf samples e.seat * ((s.seat e.seat).set.trim.toNat : Int)).sum

/-- A room's fade level (R25). -/
def State.roomFade (s : State) (lead : Nat) : Nat := fadeLevel (s.room lead).position s.ptu.k

/-- A room's combined coefficient (R165). -/
def State.roomCoefficient (s : State) (lead : Nat) : Nat :=
  combinedCoefficient (nomAttenuation (s.roomMix lead).nom (s.contributors lead).length) (s.roomMix lead).gain.toNat
    (s.roomFade lead)

/-- A room's floor bus value before saturation (R166). -/
def State.floorBus (s : State) (samples : List Sample) (lead : Nat) : Int :=
  floorValue (s.floorSum samples lead) (s.roomCoefficient lead)

/-- The floor bus values of all rooms before saturation, by leading segment (R162, step 1). -/
def State.floorBuses (s : State) (samples : List Sample) : List (Nat × Int) :=
  s.leads.map fun lead => (lead, s.floorBus samples lead)

/-- The output y of a room from the computed buses; 0 for no room. -/
def busOutput (buses : List (Nat × Int)) (lead : Nat) : Int :=
  saturate (((buses.find? fun b => b.1 == lead).map (·.2)).getD 0)

/-! ### Channels -/

/-- The output of a PRIMARY channel before saturation: the live desk's signal (R168) or the floor (R169). -/
def State.primaryValue (s : State) (samples : List Sample) (buses : List (Nat × Int)) (c : Nat) : Int :=
  match s.liveDesk c with
  | some n =>
    scale (scale (sampleOf samples n) (s.seat n).set.trim.toNat) (s.roomFade (s.channelRoom c))
  | none => scale (busOutput buses (s.channelRoom c)) (s.roomMix (s.channelRoom c)).autoFloorGain.toNat

/-- The output of a channel (R168 to R170). -/
def State.channelOutput (s : State) (samples : List Sample) (buses : List (Nat × Int)) (c : Nat) : Int :=
  match s.role c with
  | .primary => saturate (s.primaryValue samples buses c)
  | .shadow p => saturate (s.primaryValue samples buses p)
  | .dormant => 0

/-- The saturated PRIMARY channels of an audio frame with their side, in order of relay depth and then of number (R162,
step 2). -/
def State.clippedChannels (s : State) (samples : List Sample) (buses : List (Nat × Int)) : List (Nat × Polarity) :=
  let clipped := channelNumbers.filterMap fun c =>
    if s.role c = .primary then (clipSide (s.primaryValue samples buses c)).map (c, ·) else none
  [0, 1, 2, 3].flatMap fun d => clipped.filter fun x => s.relayDepth x.1 == d

/-! ### Clip records -/

/-- A clip record at a saturated frame (R176). -/
def Clip.hit (c : Clip) : Clip := { latch := true, count := min Config.clipMax (c.count + 1) }

/-- A saturated frame of a room (R176, R177). -/
def State.clipRoom (s : State) (lead : Nat) (side : Polarity) : State :=
  let hit := fun r : RoomMix => if r.lead == lead then { r with clip := r.clip.hit } else r
  let t := { s with mxe := { s.mxe with rooms := s.mxe.rooms.map hit } }
  if (s.roomMix lead).clip.latch then t else t.notify (.clip .room lead side)

/-- A saturated frame of a channel (R176, R177). -/
def State.clipChannel (s : State) (c : Nat) (side : Polarity) : State :=
  let t := { s with mxe := { s.mxe with channels := s.mxe.channels.modify (c - 1) Clip.hit } }
  if (s.mxe.channels.getD (c - 1) clearClip).latch then t else t.notify (.clip .channel c side)

/-- Every saturated frame of one audio frame: the rooms in order of leading segment, then the channels (R162). -/
def State.clipAll (s : State) (samples : List Sample) (buses : List (Nat × Int)) : State :=
  let t := buses.foldl (fun u b => match clipSide b.2 with
    | some side => u.clipRoom b.1 side
    | none => u) s
  (s.clippedChannels samples buses).foldl (fun u x => u.clipChannel x.1 x.2) t

/-! ### Feeds -/

/-- The feed of a monitor (R173). -/
def monitorFeed (s : State) (buses : List (Nat × Int)) (channels : List Int) : Route → Int
  | .none => 0
  | .floor g => busOutput buses (s.roomOf g)
  | .channel c => channels.getD (c - 1) 0

/-- A stream is carried to each PRESENT seat on an ACTIVE line (R73, R174). -/
def State.carried (s : State) (n : Nat) : Bool := (s.seat n).unit.isSome && s.seatActive n

/-- The seat headphone feed (R174). -/
def State.headphone (s : State) (buses : List (Nat × Int)) (channels : List Int) (n : Nat) : Option Int :=
  if !s.carried n then none
  else if (s.seat n).listen = 0 then some (((s.seatRoom n).map (busOutput buses)).getD 0)
  else some (channels.getD ((s.seat n).listen - 1) 0)

/-- The loudspeaker stream (R73). -/
def State.loudspeaker (s : State) (buses : List (Nat × Int)) (n : Nat) : Option Int :=
  if !s.carried n then none
  else if s.loudspeakerMuted n then some 0
  else some (((s.seatRoom n).map (busOutput buses)).getD 0)

/-- The desk headphone feed (R175). -/
def State.deskHeadphone (s : State) (buses : List (Nat × Int)) (channels : List Int) (n : Nat) : Option Int :=
  if !s.carried n || (s.seat n).kind != some .desk then none
  else match (s.seat n).set.booth with
    | none => none
    | some b =>
      if (s.seat n).desk.input = 0 then some (busOutput buses (s.boothRoom b))
      else some (channels.getD ((s.seat n).desk.input - 1) 0)

/-- Every output of one audio frame (R162, R171 to R175). -/
def State.mix (s : State) (samples : List Sample) (buses : List (Nat × Int)) : Audio :=
  let channels := channelNumbers.map (s.channelOutput samples buses)
  { channels := channels
    pa := segmentNumbers.map fun g => busOutput buses (s.roomOf g)
    monitors := [1, 2].map fun m => monitorFeed s buses channels (s.monitor m)
    headphones := seatNumbers.map (s.headphone buses channels)
    loudspeakers := seatNumbers.map (s.loudspeaker buses)
    deskHeadphones := seatNumbers.map (s.deskHeadphone buses channels) }

/-- The computation of one audio frame (R159, R162): what the frame before computed leaves the part, the outputs are
computed, and the saturated frames are recorded. -/
def State.computeAudio (s : State) (samples : List Sample) : State :=
  let buses := s.floorBuses samples
  let t := s.clipAll samples buses
  { t with mxe := { t.mxe with leaving := s.mxe.computed, computed := s.mix samples buses } }

/-! ### Coefficient sets -/

/-- The coefficient set of a room from its settings in force, with the clip record given (R161). -/
def mixOf (lead last : Nat) (t : Template) (c : Clip) : RoomMix :=
  { lead := lead, last := last, nom := t.nom, gain := t.gain, autoFloorGain := t.autoFloorGain, clip := c }

/-- A room's coefficient set takes the room's settings in force; the clip record is kept (R161, R179). -/
def State.refreshMix (s : State) (lead : Nat) : State :=
  let take := fun r : RoomMix => if r.lead == lead then mixOf r.lead r.last (s.settings lead) r.clip else r
  { s with mxe := { s.mxe with rooms := s.mxe.rooms.map take } }

/-- The coefficient sets and clip records of a map made afresh (R158). -/
def State.freshMixes (s : State) : List RoomMix :=
  (mapOf s.joins).map fun r => mixOf r.1 r.2 (s.settings r.1) clearClip

/-- The mix engine at the remap (R161): an unchanged room keeps its set and clip record, a new room takes fresh ones; `old`
is the map before the remap. -/
def State.remapMix (s : State) (old : RoomMap) : State :=
  let make := fun r : Nat × Nat =>
    if old.contains r then s.roomMix r.1 else mixOf r.1 r.2 (s.settings r.1) clearClip
  { s with mxe := { s.mxe with rooms := (mapOf s.joins).map make } }

end Sys2Proof.Machine
end

