-- ==== Sys2Proof/Machine/Regroup.lean ====
section
/-! DEFINITION. The events that audio frames bring about (the remap, the end of a fade, speech seconds and the timer checks
after a remap), the audio frame itself, and the meanings of their rows. An event that has come due is taken by its own row,
or at the latest at the next audio frame (log 4, log 5). -/

namespace Sys2Proof.Machine

/-! ### Due events -/

/-- Forget the speech limits remembered for the timer check of a room. -/
def State.forgetLimits (s : State) (lead : Nat) : State :=
  s.mapSpeakers fun e => if s.inRoom lead e.seat then { e with oldLimit := none } else e

/-- The timer check of the first new room that waits for it (R122): one event per room, as the row REMAP_TIMER_CHECK of
spec/opcode_table.json says, its entries in list order, followed by the advance rule. It judges by the
old room's limit whatever an event between the remap and it has sent already (log 45). -/
def State.takeCheck (s : State) : State :=
  match s.flc.checksDue with
  | [] => s
  | lead :: rest =>
    let t := { s with flc := { s.flc with checksDue := rest } }
    ((t.checkRoom lead fun e => e.oldLimit.getD (t.settings lead).speechLimit).forgetLimits lead).advance

/-- Every timer check that is due, in order of leading segment. -/
def State.takeChecks (s : State) : State := s.flc.checksDue.foldl (fun t _ => t.takeCheck) s

/-- A running timer completes its second (R116): the frame count returns to 0, the speech seconds rise, and the timer check
and the advance rule follow. Nothing where no second of the seat's entry is due. Whether the expiry condition held before is
judged against the settings in force, between a remap and its timer check too (log 45). -/
def State.takeSecond (s : State) (n : Nat) : State :=
  match s.speaker n with
  | none => s
  | some e =>
    if e.secondDue then
      let t := s.setSpeaker n fun x => { x with frames := 0, seconds := x.seconds + 1, secondDue := false }
      (t.timerCheck n (expiryHolds (s.settings (s.seatRoomCode n)).speechLimit e)).advance
    else s

/-- Every second that is due, in list order. -/
def State.takeSeconds (s : State) : State :=
  (s.flc.speakers.map (·.seat)).foldl (fun t n => t.takeSecond n) s

/-- The sequencer becomes IDLE when the last moving room has become STEADY (R37, R31). -/
def State.takeFadeComplete (s : State) : State :=
  if s.ptu.fadeDone then { s with ptu := { s.ptu with seq := .idle, fadeDone := false } } else s

/-- The remap (R34 to R36): the map changes, the owners' procedures run in order, the sequencer enters FADE_IN, and
REGROUP_DONE follows. The indicator memory, which is derived, stands as the floor controller and the language router leave
it (R35, step 3). -/
def State.remapAll (s : State) : State :=
  let old := mapOf s.joins
  let newMap := mapOf s.wallTargets
  let newRooms := roomsNotIn newMap old
  let s1 := (s.rememberLimits s.wallTargets newRooms).remapHall
  let s2 := s1.floorRemap newRooms
  let s3 := s2.languageRemap s
  let s4 := s3.remapMix old
  (s4.setSeq .fadeIn).notify (.regroupDone old newMap newRooms s.ptu.k)

/-- The remap is taken where its condition was found at the last audio frame (R33), once the outputs of that frame have been
computed on the old map (R27); timer checks still due from a remap before it are taken first (log 5). -/
def State.takeRemap (s : State) : State := if s.ptu.remapDue && !s.mxe.begun then s.takeChecks.remapAll else s

/-- Everything that an audio frame brought about and that has not been taken yet, in the order of log 5. -/
def State.takeDue (s : State) : State := s.takeChecks.takeSeconds.takeFadeComplete.takeRemap

/-! ### The audio frame -/

/-- One audio frame of a speech timer (R116): a running timer counts; the frame that completes the second marks it due; at
65535 seconds the frame count turns without effect. -/
def Speaker.tick (e : Speaker) : Speaker :=
  if e.kind != .delegate || e.muted then e
  else if e.frames + 1 < Config.framesPerSecond then { e with frames := e.frames + 1 }
  else if Config.speechSecondsMax ≤ e.seconds then { e with frames := 0 }
  else { e with secondDue := true }

/-- Every speech timer counts, and the timer checks of the remap before come due (R116, R122). -/
def State.tickSpeech (s : State) : State :=
  { s with flc := { s.flc with
      speakers := s.flc.speakers.map Speaker.tick
      checksDue := s.flc.checksDue ++ s.flc.checksWaiting
      checksWaiting := [] } }

/-- One audio frame of a line's wake time (log 7). -/
def LinePhase.tick : LinePhase → LinePhase
  | .waking o r => .waking o (r - 1)
  | p => p

/-- One audio frame passes for every time the part keeps in whole: wake times, DENIED flashes and the host absence timer
(log 7). -/
def State.tickClocks (s : State) : State :=
  { s with
    slc := { s.slc with
      lines := s.slc.lines.map fun x => { x with phase := x.phase.tick }
      seats := s.slc.seats.map fun x => { x with flash := x.flash.map (· - 1) } }
    ctp := { s.ctp with
      absenceFrames := if s.ctp.period = 0 then 0
        else min (Config.absenceMax * Config.framesPerSecond) (s.ctp.absenceFrames + 1) } }

/-- Mark that an audio frame is under way, its outputs still to be computed (log 4). -/
def State.setBegun (s : State) (b : Bool) : State := { s with mxe := { s.mxe with begun := b } }

/-- An audio frame begins, where none is under way: what came due before is taken (log 5), the fades move (R26), and the timers
count, at the first frame after a remap with the timer checks of its new rooms due (R116, R122). -/
def State.beginFrame (s : State) : State :=
  if s.mxe.begun then s else s.takeDue.moveRooms.tickSpeech.tickClocks.setBegun true

/-- One audio frame (R159): it begins, the timer checks due at it are taken, so that a microphone they close is closed with its
room at position 1 and before it is heard (R122), and every output is computed. -/
def State.audioFrame (s : State) (samples : List Sample) : State :=
  (s.beginFrame.takeChecks.computeAudio samples).setBegun false

/-- REMAP_TIMER_CHECK: the first timer check due at the audio frame under way; where new rooms wait for the first frame after
their remap, that frame begins with it (R122, log 4). -/
def State.remapTimerCheck (s : State) : State :=
  (if s.flc.checksDue.isEmpty && !s.flc.checksWaiting.isEmpty then s.beginFrame else s).takeCheck

/-! ### The rows -/

/-- An event of the part happens only while the part runs (R213, log 21). -/
def State.whenRunning (s : State) (t : State) : Host.Outcome State Fault Refusal := .next (if s.running then t else s)

/-- An event of a seat the part does not have (log 24). -/
def atSeat (n : Nat) (o : Host.Outcome State Fault Refusal) : Host.Outcome State Fault Refusal :=
  if isSeat n then o else .fault .noSuchSeat

/-- An event of a line the part does not have (log 24). -/
def atLine (l : Nat) (o : Host.Outcome State Fault Refusal) : Host.Outcome State Fault Refusal :=
  if isLine l then o else .fault .noSuchLine

/-- AUDIO_FRAME (R159). -/
def execAudioFrame (samples : List Sample) (s : State) : Host.Outcome State Fault Refusal :=
  s.whenRunning (s.audioFrame samples)

/-- REMAP (R34). -/
def execRemap (s : State) : Host.Outcome State Fault Refusal := s.whenRunning s.takeRemap

/-- FADE_COMPLETE (R37). -/
def execFadeComplete (s : State) : Host.Outcome State Fault Refusal := s.whenRunning s.takeFadeComplete

/-- REMAP_TIMER_CHECK (R122). -/
def execRemapTimerCheck (s : State) : Host.Outcome State Fault Refusal := s.whenRunning s.remapTimerCheck

/-- SPEECH_SECOND (R116). -/
def execSpeechSecond (seat : Nat) (s : State) : Host.Outcome State Fault Refusal :=
  atSeat seat (s.whenRunning (s.takeSecond seat))

end Sys2Proof.Machine
end

