-- ==== Sys2Proof/Machine/ControlPort.lean ====
section
/-! DEFINITION. The meanings of the control port's own commands and of its frame, transfer and timer events (chapter 9). -/

namespace Sys2Proof.Machine

/-! ### Commands -/

/-- NOTICE_MASK: bits 1 to 7 set the live mask, bit 0 stays set (R194). -/
def setMask (mask : Byte) : Action := fun s =>
  ({ s with ctp := { s.ctp with mask := mask ||| 0x01#8 } }, .plain .ok [mask ||| 0x01#8])

/-- ATTN_SET (R198). -/
def attnCommand (enable mode width : Byte) : Action := fun s =>
  match pick onOffValues enable, pick attnModeValues mode with
  | some e, some m =>
    let a : AttnSettings := { enable := e, mode := m, width := clampWidth width.toNat }
    (s.setAttn a, .plain .ok [flagByte a.enable, codeIn attnModeValues a.mode, byte a.width])
  | _, _ => (s, .refuse .outOfRange)

/-- SUPERVISION_SET: the period is set, and the timer restarts, or stops with the absence count at 0 (R202). -/
def setPeriod (seconds : Byte) : Action := fun s =>
  let period := clampPeriod seconds.toNat
  ({ s with ctp := { s.ctp with period := period, absenceFrames := 0 } }, .plain .ok [byte period])

/-- STATUS_GET (R203). -/
def execStatusGet (tag : Byte) (payload : List Byte) (s : State) : Host.Outcome State Fault Refusal :=
  .next (s.takeFrame 0x01#8 tag (noFields payload fun t => (t, .report t.statusReport)))

/-- NOTICE_MASK (R194). -/
def execNoticeMask (tag : Byte) (payload : List Byte) (s : State) : Host.Outcome State Fault Refusal :=
  .next (s.takeFrame 0x03#8 tag (match payload with
    | [mask] => setMask mask
    | _ => badLength))

/-- ATTN_SET (R198). -/
def execAttnSet (tag : Byte) (payload : List Byte) (s : State) : Host.Outcome State Fault Refusal :=
  .next (s.takeFrame 0x04#8 tag (match payload with
    | [enable, mode, width] => attnCommand enable mode width
    | _ => badLength))

/-- SUPERVISION_SET (R202). -/
def execSupervisionSet (tag : Byte) (payload : List Byte) (s : State) : Host.Outcome State Fault Refusal :=
  .next (s.takeFrame 0x05#8 tag (match payload with
    | [seconds] => setPeriod seconds
    | _ => badLength))

/-- UNKNOWN_KIND: a valid frame of a kind outside Table 9-4 (R187, step 2). -/
def execUnknownKind (kind tag : Byte) (_payload : List Byte) (s : State) : Host.Outcome State Fault Refusal :=
  .next (s.takeFrame kind tag fun t => (t, .refuse .unknownKind))

/-! ### Discarded frames -/

/-- FRAME_CHECK_FAILED: the frame is discarded with FRAME_ERROR CRC (R185). A frame whose check value is right is no such
event (log 32). -/
def execFrameCheckFailed (kind tag : Byte) (payload : List Byte) (check : BitVec 16) (s : State) :
    Host.Outcome State Fault Refusal :=
  .next (if check = frameCheck kind tag payload then s
    else s.discardFrame (.frameError .crc (payload.length + 7) payload.length kind tag))

/-- FRAME_LENGTH_EXCESS: the frame is discarded at its third byte with FRAME_ERROR LENGTH (R184). A length of at most 512 is
no such event (log 32). -/
def execFrameLengthExcess (length : BitVec 16) (s : State) : Host.Outcome State Fault Refusal :=
  .next (if length.toNat ≤ Config.payloadMax then s
    else s.discardFrame (.frameError .length 3 length.toNat 0#8 0#8))

/-! ### Transfers -/

/-- The outbound frame a transfer that starts now carries (R180). -/
def Ctp.chooses (c : Ctp) : Outbound :=
  if !c.replies.isEmpty then .reply else if !c.notices.isEmpty then .notice else .none

/-- A transfer begins where none is in progress (R180). -/
def State.startTransfer (s : State) : State :=
  match s.ctp.transfer with
  | some _ => s
  | none => { s with ctp := { s.ctp with transfer := some { outbound := s.ctp.chooses, inboundDone := false } } }

/-- The place a notice leaves is taken by NOTICE_LOSS while the loss count is above 0 (R193). -/
def Ctp.reportLoss (c : Ctp) : Ctp :=
  if c.loss = 0 then c else { c with loss := 0 }.notify (.noticeLoss c.loss)

/-- The chosen frame has been clocked out whole and leaves its queue (R181, R193). -/
def Ctp.frameSent (c : Ctp) : Ctp :=
  match c.transfer with
  | none => c
  | some t =>
    let sent := { c with transfer := some { t with outbound := .none } }
    match t.outbound with
    | .none => c
    | .reply => { sent with replies := c.replies.drop 1 }
    | .notice => { sent with notices := c.notices.drop 1 }.reportLoss

/-- Chip select is released (R181, R186): an unsent frame stays queued whole, and a partial inbound frame is discarded. -/
def State.endTransfer (s : State) (received : List Byte) : State :=
  match s.ctp.transfer with
  | none => s
  | some t =>
    let u := { s with ctp := { s.ctp with transfer := none } }
    if received.isEmpty || t.inboundDone then u else u.notify (truncatedError received)

/-- TRANSFER_START (R180). -/
def execTransferStart (s : State) : Host.Outcome State Fault Refusal := s.whenRunning s.startTransfer

/-- OUTBOUND_FRAME_SENT (R181, R193). -/
def execOutboundFrameSent (s : State) : Host.Outcome State Fault Refusal :=
  s.whenRunning { s with ctp := s.ctp.frameSent }

/-- CHIP_SELECT_RELEASE (R181, R186). -/
def execChipSelectRelease (received : List Byte) (s : State) : Host.Outcome State Fault Refusal :=
  s.whenRunning (s.endTransfer received)

/-! ### ATTN pulses and host absence -/

/-- A pulse begins: the pending count falls by 1 and ATTN is asserted (R197). -/
def Ctp.beginPulse (c : Ctp) : Ctp :=
  if c.pulses = 0 then { c with pulse := .idle } else { c with pulse := .asserted, pulses := c.pulses - 1 }

/-- One step of ATTN's pulse timing in PULSE mode (R197): a pulse begins, ends into a release of the same length, or follows
that release where the count is above 0. -/
def Ctp.pulseStep (c : Ctp) : Ctp :=
  if !c.pulsing then c
  else match c.pulse with
    | .asserted => { c with pulse := .gap }
    | .idle | .gap => c.beginPulse

/-- ATTN_PULSE (R197). -/
def execAttnPulse (s : State) : Host.Outcome State Fault Refusal := s.whenRunning { s with ctp := s.ctp.pulseStep }

/-- The host absence timer expires (R200): the count stands at the period at least (log 31), HOST_ABSENT is queued and the
advance rule runs. Nothing while the timer is stopped. -/
def State.hostAbsence (s : State) : State :=
  if s.ctp.timerRuns then
    (({ s with ctp := { s.ctp with
        autonomous := true
        absenceFrames := max s.ctp.absenceFrames (s.ctp.period * Config.framesPerSecond) } }).notify
      (.hostAbsent s.ctp.period)).advance
  else s

/-- HOST_ABSENCE_EXPIRY (R200). -/
def execHostAbsenceExpiry (s : State) : Host.Outcome State Fault Refusal := s.whenRunning s.hostAbsence

end Sys2Proof.Machine
end

