-- ==== Sys2Proof/Machine/Floor.lean ====
section
/-! DEFINITION. The meanings of the floor commands (5.7) and of the speech timer commands (chapter 6). -/

namespace Sys2Proof.Machine

/-! ### The checks of R97 -/

/-- The checks of a floor command that names a seat, in the order of R97: the code that refuses it, or none. -/
def State.floorCheck (s : State) (n : Nat) (kinds : List Kind) (needsPlace : Bool) : Option ResultCode :=
  if !isSeat n then some .outOfRange
  else if !s.seatActive n then some .lineDown
  else match (s.seat n).kind with
    | none => some .notFound
    | some k =>
      if !kinds.contains k then some .wrongState
      else if needsPlace && (s.placement n).isNone then some .notPlaced
      else none

/-- A floor command that names a seat: refused by its checks, or handed to its own conditions. -/
def seatCommand (n : Nat) (kinds : List Kind) (needsPlace : Bool) (act : Action) : Action := fun s =>
  match s.floorCheck n kinds needsPlace with
  | some code => (s, .refuse code)
  | none => act s

/-- A floor command that names a room by a segment acts on the room that holds it (5.7). -/
def roomCommand (g : Nat) (act : Nat → Action) : Action := fun s =>
  if isSegment g then act (s.roomOf g) s else (s, .refuse .outOfRange)

/-- What forbids an open by the host, in the order of R98: a chair needs a slot alone. -/
def State.hostOpenCode (s : State) (n : Nat) : Option ResultCode :=
  let lead := s.seatRoomCode n
  if (s.seat n).kind = some .delegate ∧ !(s.holdersIn lead).isEmpty then some .priorityHeld
  else if (s.seat n).kind = some .delegate ∧ !s.belowLimit lead then some .limitReached
  else if !s.slotFree then some .poolFull
  else none

/-- MIC_OPEN after the checks of R97 (R98). -/
def hostOpen (n : Nat) : Action := fun s =>
  if (s.speaker n).isSome then (s, .done)
  else match s.hostOpenCode n with
    | some code => (s, .refuse code)
    | none => (((s.removeRequest n .granted).openMic n ((s.seat n).kind.getD .delegate) .host).advance, .done)

/-- MIC_CLOSE after the checks of R97 (R99). -/
def hostClose (n : Nat) : Action := fun s =>
  if (s.speaker n).isSome then ((s.closeMic n .host).advance, .done) else (s, .done)

/-- REQUEST_ADD after the checks of R97 (R100). -/
def hostRequest (n : Nat) : Action := fun s =>
  if (s.settings (s.seatRoomCode n)).mode ≠ .queued then (s, .refuse .wrongState)
  else if (s.speaker n).isSome then (s, .refuse .wrongState)
  else if (s.request n).isSome then (s, .done)
  else if s.freeRequests = 0 then (s, .refuse .queueFull)
  else ((s.addNormal n).advance, .done)

/-- REQUEST_REMOVE after the checks of R97 (R101). -/
def hostRemove (n : Nat) : Action := fun s =>
  if (s.request n).isSome then ((s.removeRequest n .host).advance, .done) else (s, .refuse .notFound)

/-- GRANT_NEXT for a room (R102). -/
def grantNext (lead : Nat) : Action := fun s =>
  if (s.settings lead).mode ≠ .queued then (s, .refuse .wrongState)
  else match s.queueIn lead with
    | [] => (s, .refuse .notFound)
    | q :: _ =>
      if !(s.holdersIn lead).isEmpty then (s, .refuse .priorityHeld)
      else if !s.belowLimit lead then (s, .refuse .limitReached)
      else if !s.slotFree then (s, .refuse .poolFull)
      else ((s.grant q.seat).advance, .plain .ok (seatBytes q.seat))

/-! ### Extensions and talk totals -/

/-- The checks of SPEECH_EXTEND in the order of R120, the open microphone left to its owner. Whether the expiry condition held
before is judged against the settings in force, between a remap and its timer check too (log 45). -/
def extendSpeech (n seconds : Nat) : Action := fun s =>
  match s.speaker n with
  | none => (s, .refuse .notFound)
  | some e =>
    let limit := (s.settings (s.seatRoomCode n)).speechLimit
    let extension := min 3600 (e.extension + clampExtension seconds)
    let reply := Reply.plain .ok (bytes2 extension ++ bytes2 (allowance limit extension))
    if 3600 ≤ e.extension then (s, .plain .ok (bytes2 e.extension ++ bytes2 (allowance limit e.extension)))
    else
      (((s.setSpeaker n fun x => { x with extension := extension }).timerCheck n (expiryHolds limit e)).advance, reply)

/-- TALK_TOTAL_CLEAR under scope ONE or ALL (R124). -/
def clearTotals (scope : Byte) (n : Nat) : Action := fun s =>
  match scope.toNat with
  | 0 => if isSeat n then (s.setSeat n fun t => { t with talkTotal := 0 }, .done) else (s, .refuse .outOfRange)
  | 1 => (s.setSeats seatNumbers fun _ t => { t with talkTotal := 0 }, .done)
  | _ => (s, .refuse .outOfRange)

/-! ### The rows -/

/-- MIC_OPEN (R98). -/
def execMicOpen (tag : Byte) (payload : List Byte) (s : State) : Host.Outcome State Fault Refusal :=
  .next (s.takeFrame 0x30#8 tag (match payload with
    | [hi, lo] => seatCommand (word2 hi lo) [.delegate, .chair] true (hostOpen (word2 hi lo))
    | _ => badLength))

/-- MIC_CLOSE (R99). -/
def execMicClose (tag : Byte) (payload : List Byte) (s : State) : Host.Outcome State Fault Refusal :=
  .next (s.takeFrame 0x31#8 tag (match payload with
    | [hi, lo] => seatCommand (word2 hi lo) [.delegate, .chair] false (hostClose (word2 hi lo))
    | _ => badLength))

/-- ROOM_CLOSE_ALL (R99). -/
def execRoomCloseAll (tag : Byte) (payload : List Byte) (s : State) : Host.Outcome State Fault Refusal :=
  .next (s.takeFrame 0x32#8 tag (match payload with
    | [g] => roomCommand g.toNat fun lead t => ((t.closeDelegates lead .host).advance, .done)
    | _ => badLength))

/-- REQUEST_ADD (R100). -/
def execRequestAdd (tag : Byte) (payload : List Byte) (s : State) : Host.Outcome State Fault Refusal :=
  .next (s.takeFrame 0x33#8 tag (match payload with
    | [hi, lo] => seatCommand (word2 hi lo) [.delegate] true (hostRequest (word2 hi lo))
    | _ => badLength))

/-- REQUEST_REMOVE (R101). -/
def execRequestRemove (tag : Byte) (payload : List Byte) (s : State) : Host.Outcome State Fault Refusal :=
  .next (s.takeFrame 0x34#8 tag (match payload with
    | [hi, lo] => seatCommand (word2 hi lo) [.delegate] false (hostRemove (word2 hi lo))
    | _ => badLength))

/-- GRANT_NEXT (R102). -/
def execGrantNext (tag : Byte) (payload : List Byte) (s : State) : Host.Outcome State Fault Refusal :=
  .next (s.takeFrame 0x35#8 tag (match payload with
    | [g] => roomCommand g.toNat grantNext
    | _ => badLength))

/-- QUEUE_CLEAR (R101). -/
def execQueueClear (tag : Byte) (payload : List Byte) (s : State) : Host.Outcome State Fault Refusal :=
  .next (s.takeFrame 0x36#8 tag (match payload with
    | [g] => roomCommand g.toNat fun lead t => ((t.clearQueue lead .cleared).advance, .done)
    | _ => badLength))

/-- ROOM_GET (R103). -/
def execRoomGet (tag : Byte) (payload : List Byte) (s : State) : Host.Outcome State Fault Refusal :=
  .next (s.takeFrame 0x37#8 tag (match payload with
    | [g] => roomCommand g.toNat fun lead t => (t, .report (t.floorReport lead))
    | _ => badLength))

/-- SPEECH_EXTEND (R120). -/
def execSpeechExtend (tag : Byte) (payload : List Byte) (s : State) : Host.Outcome State Fault Refusal :=
  .next (s.takeFrame 0x38#8 tag (match payload with
    | [hi, lo, s1, s0] => seatCommand (word2 hi lo) [.delegate] false (extendSpeech (word2 hi lo) (word2 s1 s0))
    | _ => badLength))

/-- TALK_TOTAL_CLEAR (R124). -/
def execTalkTotalClear (tag : Byte) (payload : List Byte) (s : State) : Host.Outcome State Fault Refusal :=
  .next (s.takeFrame 0x39#8 tag (match payload with
    | [scope, hi, lo] => clearTotals scope (word2 hi lo)
    | _ => badLength))

end Sys2Proof.Machine
end

