-- ==== Sys2Proof/Machine/Hall.lean ====
section
/-! DEFINITION. The meanings of the hall commands and of the wall events (chapters 1 and 2). -/

namespace Sys2Proof.Machine

/-! ### Commands -/

/-- The settings of a wall after WALL_POLICY (R13): from FOLLOW to HELD the current join is copied into the held join. -/
def Wall.takePolicy (w : Wall) (policy : Policy) (settle : Nat) : Wall :=
  { w with set :=
    { policy := policy
      held := if w.set.policy = .follow ∧ policy = .held then w.current else w.set.held
      settleTime := clampSettle settle } }

/-- WALL_POLICY (R13). -/
def wallPolicy (k : Nat) (policy : Byte) (settle : Nat) : Action := fun s =>
  if !isWall k then (s, .refuse .outOfRange)
  else match pick policyValues policy with
    | none => (s, .refuse .outOfRange)
    | some p => ((s.setWall k fun w => w.takePolicy p settle).rework k, .done)

/-- WALL_SET (R14): the requested join is worked out again under HELD alone. -/
def wallSet (k : Nat) (join : Byte) : Action := fun s =>
  if !isWall k then (s, .refuse .outOfRange)
  else match pick joinValues join with
    | none => (s, .refuse .outOfRange)
    | some j =>
      let t := s.setWall k fun w => { w with set := { w.set with held := j } }
      (if (s.wall k).set.policy = .held then t.rework k else t, .done)

/-- A route's source that a privacy change of a segment concerns: the segment's floor, or a channel of that home segment
(R16, R149). -/
def State.routeOfSegment (s : State) (g : Nat) : Route → Bool
  | .none => false
  | .floor h => h == g
  | .channel c => (s.channel c).home == g

/-- The walls beside a segment (R16). -/
def wallsBeside (g : Nat) : List Nat := wallNumbers.filter fun k => k + 1 == g || k == g

/-- A segment's privacy changes (R16): the walls beside it are checked again, and routes of a PRIVATE segment cleared. -/
def State.changePrivacy (s : State) (g : Nat) (p : Privacy) : State :=
  let t := (wallsBeside g).foldl State.checkTarget (s.setSegment g fun x => { x with privacy := p })
  if p = .closed_ then t.clearMonitors (t.routeOfSegment g) .privacy else t

/-- SEGMENT_PRIVACY (R15, R16). -/
def segmentPrivacy (g : Nat) (privacy : Byte) : Action := fun s =>
  if !isSegment g then (s, .refuse .outOfRange)
  else match pick privacyValues privacy with
    | none => (s, .refuse .outOfRange)
    | some p =>
      if s.roomOf g ≠ g ∨ lastOf s.joins g ≠ g then (s, .refuse .wrongState)
      else if (s.room g).regrouping then (s, .refuse .busy)
      else if s.privacy g = p then (s, .done)
      else (s.changePrivacy g p, .done)

/-- FADE_TIME (R24). -/
def setFadeTime (ms : Nat) : Action := fun s =>
  ({ s with ptu := { s.ptu with fadeTime := clampFade ms } }, .done)

/-- A segment's template is replaced (R17); where the segment leads a room, the room's new settings in force go to their
owners, and the advance rule runs last (R18, R104). -/
def State.replaceTemplate (s : State) (g : Nat) (x : Template) : State :=
  let t := s.setSegment g fun y => { y with template := x }
  if s.roomOf g = g then (((t.applySettings g (s.settings g)).advance).refreshMix g) else t

/-- ROOM_TEMPLATE (R17). -/
def roomTemplate (g : Nat) (fields : List Byte) : Action := fun s =>
  if !isSegment g then (s, .refuse .outOfRange)
  else match templateOf fields with
    | none => (s, .refuse .outOfRange)
    | some x => (s.replaceTemplate g x, .done)

/-! ### Wall events -/

/-- One measurement of the five walls (R5, R6). A settle that expired at the measurement before and was not taken is taken
first (log 4), in wall order (log 5). -/
def State.measureWalls (s : State) (readings : Readings) : State :=
  let t := wallNumbers.foldl State.settle s
  wallNumbers.foldl (fun u k => u.setWall k fun w => w.measure (readingOf readings k)) t

/-! ### The rows -/

/-- WALL_POLICY (R13). -/
def execWallPolicy (tag : Byte) (payload : List Byte) (s : State) : Host.Outcome State Fault Refusal :=
  .next (s.takeFrame 0x10#8 tag (match payload with
    | [k, policy, settle] => wallPolicy k.toNat policy settle.toNat
    | _ => badLength))

/-- WALL_SET (R14). -/
def execWallSet (tag : Byte) (payload : List Byte) (s : State) : Host.Outcome State Fault Refusal :=
  .next (s.takeFrame 0x11#8 tag (match payload with
    | [k, join] => wallSet k.toNat join
    | _ => badLength))

/-- SEGMENT_PRIVACY (R15, R16). -/
def execSegmentPrivacy (tag : Byte) (payload : List Byte) (s : State) : Host.Outcome State Fault Refusal :=
  .next (s.takeFrame 0x12#8 tag (match payload with
    | [g, privacy] => segmentPrivacy g.toNat privacy
    | _ => badLength))

/-- FADE_TIME (R24). -/
def execFadeTime (tag : Byte) (payload : List Byte) (s : State) : Host.Outcome State Fault Refusal :=
  .next (s.takeFrame 0x13#8 tag (match payload with
    | [hi, lo] => setFadeTime (word2 hi lo)
    | _ => badLength))

/-- ROOM_TEMPLATE (R17, R18). -/
def execRoomTemplate (tag : Byte) (payload : List Byte) (s : State) : Host.Outcome State Fault Refusal :=
  .next (s.takeFrame 0x14#8 tag (match payload with
    | g :: fields => if fields.length = 14 then roomTemplate g.toNat fields else badLength
    | [] => badLength))

/-- HALL_GET (R19). -/
def execHallGet (tag : Byte) (payload : List Byte) (s : State) : Host.Outcome State Fault Refusal :=
  .next (s.takeFrame 0x15#8 tag (noFields payload fun t => (t, .report t.hallReport)))

/-- WALL_MEASUREMENT (R5, R6). -/
def execWallMeasurement (walls : Readings) (s : State) : Host.Outcome State Fault Refusal :=
  s.whenRunning (s.measureWalls walls)

/-- SETTLE_EXPIRY (R7). -/
def execSettleExpiry (wall : Nat) (s : State) : Host.Outcome State Fault Refusal :=
  if isWall wall then s.whenRunning (s.settle wall) else .fault .noSuchWall

end Sys2Proof.Machine
end

