-- ==== Sys2Proof/Machine/Language.lean ====
section
/-! DEFINITION. The meanings of the language and mix commands (7.4, 7.9, 7.11, 8.5). -/

namespace Sys2Proof.Machine

/-! ### CHANNEL_SETUP -/

/-- The values a CHANNEL_SETUP carries, none where one is out of range (R133, check 1). -/
def channelOf (enable c1 c2 c3 home : Byte) : Option Channel :=
  match pick onOffValues enable with
  | none => none
  | some e =>
    if isLetter c1 && isLetter c2 && isLetter c3 && isSegment home.toNat then
      some { enabled := e, tag := ⟨c1, c2, c3⟩, home := home.toNat }
    else none

/-- Check 2 of R133: the channel is one of an enabled booth's and would be disabled, retagged or moved. A stored B channel above
Nc counts (log 48). -/
def State.channelInUse (s : State) (c : Nat) (x : Channel) : Bool :=
  (boothNumbers.any fun b => (s.booth b).enabled && (s.booth b).owns c) &&
    (!x.enabled || x.tag != (s.channel c).tag || x.home != (s.channel c).home)

/-- Check 3 of R133: some channel of an in-service booth that is PRIMARY in `s` is SHADOW in `t`. -/
def State.shadowsBooth (s t : State) : Bool :=
  boothNumbers.any fun b => s.inService b && channelNumbers.any fun c =>
    (s.booth b).owns c && s.role c == .primary && (t.role c).isShadow

/-- Reset 3 of R134: the route's source is channel c, which is now disabled or has a PRIVATE home segment. -/
def State.setupClearsRoute (s : State) (c : Nat) (r : Route) : Bool :=
  r == .channel c && (!(s.channel c).enabled || s.routePrivate r)

/-- A CHANNEL_SETUP that passes: the roles, and the resets of R134 in order; `old` is the state before the command. An output
select of B stays where B becomes SHADOW, which check 3 of R133 leaves to a booth that is not in service (log 51). -/
def State.channelTaken (s : State) (c : Nat) (old : State) : State :=
  let s1 := s.roleNotices old
  let s2 := s1.resetRelays seatNumbers s1.setupLosesRelay
  let s3 := s2.resetListens s2.setupLosesListen
  (s3.clearMonitors (s3.setupClearsRoute c) .channel).unparkNotices old

/-- CHANNEL_SETUP (R133, R134). -/
def channelSetup (c : Nat) (fields : Option Channel) : Action := fun s =>
  if c < 1 ∨ 24 < c then (s, .refuse .outOfRange)
  else match fields with
    | none => (s, .refuse .outOfRange)
    | some x =>
      let t := s.setChannel c fun _ => x
      if s.channelInUse c x then (s, .refuse .wrongState)
      else if s.shadowsBooth t then (s, .refuse .shadow)
      else if s.channel c = x then (s, .done)
      else (t.channelTaken c s, .done)

/-! ### BOOTH_SETUP -/

/-- The values a BOOTH_SETUP carries, none where one is out of range (R135, check 1). -/
def boothFrom (enable home a b interlock : Byte) : Option Booth :=
  match pick onOffValues enable, pick interlockValues interlock with
  | some e, some i =>
    if isSegment home.toNat && a.toNat ≤ 24 && b.toNat ≤ 24 && !(e && a.toNat == 0) && !(b.toNat != 0 && a.toNat == 0) then
      some { enabled := e, home := home.toNat, a := a.toNat, b := b.toNat, interlock := i }
    else none
  | _, _ => none

/-- The channels a booth names. -/
def Booth.channels (x : Booth) : List Nat := [x.a, x.b].filter (· != 0)

/-- Check 3 of R135: each channel enabled and active, the two different, neither a channel of another enabled booth. -/
def State.channelsFit (s : State) (b : Nat) (x : Booth) : Bool :=
  (x.channels.all fun c =>
    s.inUse c && boothNumbers.all fun d => d == b || !((s.booth d).enabled && (s.booth d).owns c)) && x.a != x.b

/-- A booth's setup is written, and its desk entries brought into line without notice (R136): an output select of B without
a B channel, and an input select that is no relay source. -/
def State.writeBooth (s : State) (b : Nat) (x : Booth) : State :=
  let t := s.setBooth b fun _ => x
  t.setSeats (t.desksOf b) fun _ y =>
    { y with desk :=
      { y.desk with
        output := if x.b = 0 then .a else y.desk.output
        input := if t.relaySource b y.desk.input then y.desk.input else 0 } }

/-- The desks whose relay selection a BOOTH_SETUP resets, with RELAY_LOST (R136); `s` is the state before. -/
def State.boothRelayNotices (s : State) (b : Nat) (t : State) : List Notice :=
  (t.desksOf b).filterMap fun n =>
    if (s.seat n).desk.input ≠ (t.seat n).desk.input then some (.relayLost n b (s.seat n).desk.input) else none

/-- A BOOTH_SETUP that passes (R136). -/
def State.boothTaken (s : State) (b : Nat) (x : Booth) : State :=
  let t := s.writeBooth b x
  (t.notifyAll (s.boothRelayNotices b t)).unparkNotices s

/-- Checks 3 to 6 of R135, for an enabled booth. -/
def State.boothCode (s : State) (b : Nat) (x : Booth) : Option ResultCode :=
  if !x.enabled then none
  else if !s.channelsFit b x then some .channelTaken
  else if x.channels.any fun c => (s.channel c).home != x.home then some .homeMismatch
  else if x.channels.any fun c => (s.role c).isShadow then some .shadow
  else if (s.writeBooth b x).relayCycle then some .relayLoop
  else if (s.writeBooth b x).relayTooDeep then some .relayDepth
  else none

/-- BOOTH_SETUP (R135, R136). -/
def boothSetup (b : Nat) (fields : Option Booth) : Action := fun s =>
  if b < 1 ∨ 16 < b then (s, .refuse .outOfRange)
  else match fields with
    | none => (s, .refuse .outOfRange)
    | some x =>
      if (s.boothLive b).isSome then (s, .refuse .wrongState)
      else match s.boothCode b x with
        | some code => (s, .refuse code)
        | none => (s.boothTaken b x, .done)

/-! ### DESK_ASSIGN, MONITOR_ROUTE and CLIP_GET -/

/-- DESK_ASSIGN (R137). -/
def deskAssign (n b : Nat) : Action := fun s =>
  if !isSeat n || 16 < b then (s, .refuse .outOfRange)
  else if !s.seatActive n then (s, .refuse .lineDown)
  else if s.deskIsLive n then (s, .refuse .wrongState)
  else if (s.seat n).set.booth = optNumber b then (s, .done)
  else if b ≠ 0 ∧ 3 ≤ (s.desksOf b).length then (s, .refuse .boothFull)
  else (s.setSeat n fun t => { t with set := { t.set with booth := optNumber b }, desk := freshDesk }, .done)

/-- The route that a source kind and a number name, none where they are out of range (R148, check 1). -/
def routeFrom (kind : Byte) (number : Nat) : Option Route :=
  match kind.toNat with
  | 0 => some .none
  | 1 => if isSegment number then some (.floor number) else none
  | 2 => if 1 ≤ number ∧ number ≤ 24 then some (.channel number) else none
  | _ => none

/-- Check 2 of R148: the source is a channel that is disabled or not active. -/
def State.routeMissing (s : State) : Route → Bool
  | .channel c => !s.inUse c
  | .none | .floor _ => false

/-- MONITOR_ROUTE (R148). -/
def monitorRoute (m : Nat) (source : Option Route) : Action := fun s =>
  if m < 1 ∨ 2 < m then (s, .refuse .outOfRange)
  else match source with
    | none => (s, .refuse .outOfRange)
    | some r =>
      if s.routeMissing r then (s, .refuse .notFound)
      else if s.routePrivate r then (s, .refuse .privacy)
      else (s.setMonitor m r, .done)

/-- Every clip record is cleared (R178). -/
def State.clearClips (s : State) : State :=
  { s with mxe := { s.mxe with
    rooms := s.mxe.rooms.map fun r => { r with clip := clearClip }
    channels := s.mxe.channels.map fun _ => clearClip } }

/-! ### The rows -/

/-- CHANNEL_SETUP (R133). -/
def execChannelSetup (tag : Byte) (payload : List Byte) (s : State) : Host.Outcome State Fault Refusal :=
  .next (s.takeFrame 0x40#8 tag (match payload with
    | [c, enable, c1, c2, c3, home] => channelSetup c.toNat (channelOf enable c1 c2 c3 home)
    | _ => badLength))

/-- BOOTH_SETUP (R135). -/
def execBoothSetup (tag : Byte) (payload : List Byte) (s : State) : Host.Outcome State Fault Refusal :=
  .next (s.takeFrame 0x41#8 tag (match payload with
    | [number, enable, home, a, b, interlock] => boothSetup number.toNat (boothFrom enable home a b interlock)
    | _ => badLength))

/-- DESK_ASSIGN (R137). -/
def execDeskAssign (tag : Byte) (payload : List Byte) (s : State) : Host.Outcome State Fault Refusal :=
  .next (s.takeFrame 0x42#8 tag (match payload with
    | [hi, lo, b] => deskAssign (word2 hi lo) b.toNat
    | _ => badLength))

/-- LANGUAGE_GET (R152). -/
def execLanguageGet (tag : Byte) (payload : List Byte) (s : State) : Host.Outcome State Fault Refusal :=
  .next (s.takeFrame 0x43#8 tag (noFields payload fun t => (t, .report t.languageReport)))

/-- MONITOR_ROUTE (R148). -/
def execMonitorRoute (tag : Byte) (payload : List Byte) (s : State) : Host.Outcome State Fault Refusal :=
  .next (s.takeFrame 0x44#8 tag (match payload with
    | [m, kind, number] => monitorRoute m.toNat (routeFrom kind number.toNat)
    | _ => badLength))

/-- CLIP_GET: the report is made, then every clip record is cleared (R178). -/
def execClipGet (tag : Byte) (payload : List Byte) (s : State) : Host.Outcome State Fault Refusal :=
  .next (s.takeFrame 0x50#8 tag (noFields payload fun t => (t.clearClips, .report t.clipReport)))

end Sys2Proof.Machine
end

