-- ==== Sys2Proof/Machine/LineOps.lean ====
section
/-! DEFINITION. The seat line controllers' shared procedures: line transitions, leaving ACTIVE, line starts, wakes, censuses
and faults (chapter 3). -/

namespace Sys2Proof.Machine

/-- Change a line's state, with LINE_STATE (R42). A refresh under way ends (R75). -/
def State.changeLine (s : State) (l : Nat) (phase : LinePhase) (cause : LineCause) : State :=
  (s.setLine l fun x => { x with phase := phase, refresh := none }).notify
    (.lineState l (s.line l).phase.state phase.state cause)

/-- A stream list with the streams of a line's seats ended. -/
def dropStreams (l : Nat) (streams : List (Option Int)) : List (Option Int) :=
  streams.mapIdx fun n x => if lineOfSeat n == l then none else x

/-- The seat-line streams of one audio frame with those of a line ended (R47). -/
def Audio.dropLine (a : Audio) (l : Nat) : Audio :=
  { a with
    headphones := dropStreams l a.headphones
    loudspeakers := dropStreams l a.loudspeakers
    deskHeadphones := dropStreams l a.deskHeadphones }

/-- From the change of state on, no audio goes down a line that has left ACTIVE (R47), and its DENIED flashes end (R69). -/
def State.quietLine (s : State) (l : Nat) : State :=
  let t := s.setSeats (seatsOfLine l) fun _ x => { x with flash := none }
  { t with mxe := { t.mxe with computed := t.mxe.computed.dropLine l, leaving := t.mxe.leaving.dropLine l } }

/-- A line changes state; where it leaves ACTIVE, LINE_STATE comes first, then the floor controller's closures and the
language router's (R47). `clearIndicators` is the clearing that LINE_STANDBY adds (R48). -/
def State.leaveLine (s : State) (l : Nat) (phase : LinePhase) (cause : LineCause) (leave : LeaveCause)
    (clearIndicators : Bool) : State :=
  let t := s.changeLine l phase cause
  if s.lineActive l then
    let u := if clearIndicators then t.setLine l fun x => { x with indicators := false } else t
    ((u.quietLine l).floorLineLeaves l leave).languageLineLeaves l leave
  else t

/-- Every seat of a line becomes ABSENT with kind and serial absent; miss counts return to 0 and flashes end (R53, R69). -/
def State.absentSeats (s : State) (l : Nat) : State :=
  s.setSeats (seatsOfLine l) fun _ x => { x with unit := none, miss := 0, flash := none, sent := none }

/-- The census record of a line as a census begins: each position's unit as it stands just before (R44). -/
def State.freshCensus (s : State) (l : Nat) : Census :=
  { found := [], sense := none, before := (seatsOfLine l).map fun n => (s.seat n).unit }

/-- A census begins (R44), the line's state being CENSUS already: the unit count is 0 and every seat ABSENT. -/
def State.beginCensus (s : State) (l : Nat) : State :=
  (s.setLine l fun x => { x with unitCount := 0 }).absentSeats l

/-- A line goes to FAULT (R45, R53). -/
def State.faultLine (s : State) (l : Nat) (fault : LineFault) (position : Option Nat) (cause : LineCause) : State :=
  ((s.leaveLine l (.fault fault position) cause .lineFault false).setLine l fun x =>
    { x with unitCount := 0, presenceChanged := false }).absentSeats l

/-- A line goes to OFF by LINE_OFF (R54). -/
def State.switchOff (s : State) (l : Nat) : State :=
  ((s.leaveLine l .off .command .lineOff false).setLine l fun x =>
    { x with unitCount := 0, presenceChanged := false }).absentSeats l

/-- The line output goes on at full level and the wake time begins (R43, R50, R51). -/
def State.wakeLine (s : State) (l : Nat) (origin : WakeOrigin) (cause : LineCause) : State :=
  s.changeLine l (.waking origin Config.wakeFrames) cause

/-- A line becomes ACTIVE: its miss counts start from 0 (R53). -/
def State.activateLine (s : State) (l : Nat) (cause : LineCause) : State :=
  (s.setSeats (seatsOfLine l) fun _ x => { x with miss := 0 }).changeLine l .active cause

/-- The kind a classification result gives (R44). -/
def kindOf (result : Nat) : Kind :=
  if result ≤ 99 then .unknown
  else if result ≤ 299 then .delegate
  else if result ≤ 499 then .chair
  else if result ≤ 699 then .desk
  else .unknown

/-- The seat notice of one position when a census completes (R46). -/
def seatNotice (seat : Nat) : Option UnitInfo → Option UnitInfo → Option Notice
  | none, some u => some (.seatFound seat u.serial u.kind)
  | some u, none => some (.seatLost seat u.serial)
  | some u, some v => if u = v then none else some (.seatChanged seat u.serial u.kind v.serial v.kind)
  | none, none => none

/-- The seat notices of a completed census in position order (R46). -/
def censusNotices (l : Nat) (c : Census) : List Notice :=
  (List.range 64).filterMap fun i => seatNotice (64 * l + i) (c.before.getD i none) c.found[i]?

/-- Write the census result into the seat table (R46). -/
def State.writeCensus (s : State) (l : Nat) (c : Census) : State :=
  s.setSeats (seatsOfLine l) fun n x => { x with unit := c.found[n - 64 * l]?, miss := 0 }

/-- The census finds more than 64 units: the forward sense of position 64 shows one beyond (R44). -/
def Census.overlong (c : Census) : Bool := c.found.length == 64 && c.sense == some true

/-- A census completes (R46): the result is written in one step, the notices are queued in order, and the line becomes
ACTIVE. -/
def State.completeCensus (s : State) (l : Nat) (c : Census) : State :=
  let s1 := (s.writeCensus l c).setLine l fun x =>
    { x with unitCount := c.found.length, presenceChanged := false, overlength := c.overlong }
  let s2 := if c.overlong then s1.notify (.lineOverlength l) else s1
  let s3 := (s2.notifyAll (censusNotices l c)).notify (.censusDone l c.found.length)
  s3.activateLine l .censusEnd

/-- What comes next in a census: a slot of the position being worked, or its completion (R44, steps 1 and 4). Before position
1 has answered, the line output's own forward sense decides, which the event that comes shows (log 26). -/
def Census.awaitsSlot (c : Census) : Bool := c.found.length < 64 && c.sense != some false

/-- The census has reached its end: a forward sense without a unit, or 64 units (R44). -/
def Census.awaitsEnd (c : Census) : Bool := c.found.length == 64 || c.sense != some true

/-- A census slot ends with an answer (R44, steps 3 and 4). -/
def State.censusAnswer (s : State) (l : Nat) (c : Census) (a : UnitAnswer) : State :=
  let found := c.found ++ [{ serial := a.serial, kind := kindOf a.result.toNat }]
  let c' := { c with found := found, sense := some a.sense }
  s.setLine l fun x =>
    { x with
      phase := .census c'
      unitCount := found.length
      overlength := x.overlength || c'.overlong }

/-- The wake time of a line ends (R43, R52): the indicator enable is set where auto-relight is ON; a line start, or a
resume with the presence-changed flag set, goes to CENSUS, and any other resume to ACTIVE. -/
def State.endWake (s : State) (l : Nat) (origin : WakeOrigin) : State :=
  let t := s.setLine l fun x => { x with indicators := x.indicators || x.set.autoRelight }
  if origin = .start ∨ (s.line l).presenceChanged then
    (t.changeLine l (.census (s.freshCensus l)) .wakeEnd).beginCensus l
  else t.activateLine l .wakeEnd

end Sys2Proof.Machine
end

