-- ==== Sys2Proof/Machine/Lines.lean ====
section
/-! DEFINITION. The meanings of the line commands and of the line events (chapter 3, 4.5, 4.6). -/

namespace Sys2Proof.Machine

/-! ### Commands -/

/-- A command that names a line (R41). -/
def lineCommand (l : Nat) (act : Action) : Action := fun s => if isLine l then act s else (s, .refuse .outOfRange)

/-- LINE_POWER (R56). -/
def linePower (l : Nat) (policy press relight : Byte) : Action := fun s =>
  match pick powerPolicyValues policy, pick onOffValues press, pick onOffValues relight with
  | some p, some w, some a =>
    (s.setLine l fun x => { x with set := { powerPolicy := p, wakeOnPress := w, autoRelight := a } }, .done)
  | _, _, _ => (s, .refuse .outOfRange)

/-- LINE_WAKE (R51). -/
def lineWake (l : Nat) : Action := fun s =>
  match (s.line l).phase with
  | .off | .fault _ _ => (s.wakeLine l .start .command, .done)
  | .standby => (s.wakeLine l .resume .command, .done)
  | .waking _ _ | .census _ | .active => (s, .done)

/-- LINE_STANDBY (R48). -/
def lineStandby (l : Nat) : Action := fun s =>
  match (s.line l).phase with
  | .active => (s.leaveLine l .standby .command .standby true, .done)
  | .waking .resume _ => ((s.changeLine l .standby .command).notify (.wakeCancelled l), .done)
  | .waking .start _ | .census _ => (s, .refuse .busy)
  | .standby => (s, .done)
  | .off | .fault _ _ => (s, .refuse .wrongState)

/-- LINE_OFF (R54). -/
def lineOff (l : Nat) : Action := fun s =>
  match (s.line l).phase with
  | .off => (s, .done)
  | .waking _ _ | .census _ | .active | .standby | .fault _ _ => (s.switchOff l, .done)

/-- LINE_CENSUS (R55). -/
def lineCensus (l : Nat) : Action := fun s =>
  match (s.line l).phase with
  | .active => ((s.leaveLine l (.census (s.freshCensus l)) .command .census false).beginCensus l, .done)
  | .census _ | .waking _ _ => (s, .refuse .busy)
  | .standby | .off | .fault _ _ => (s, .refuse .wrongState)

/-- LINE_INDICATORS (R76). -/
def lineIndicators (l : Nat) (enable : Byte) : Action := fun s =>
  match pick onOffValues enable with
  | some e => (s.setLine l fun x => { x with indicators := e }, .done)
  | none => (s, .refuse .outOfRange)

/-! ### The refresh and the watch for silent units -/

/-- A unit of a line whose miss count has reached 3 (R53). -/
def State.silentSeat (s : State) (l : Nat) : Option Nat :=
  (seatsOfLine l).find? fun n => (s.seat n).unit.isSome && 3 ≤ (s.seat n).miss

/-- An ACTIVE line with a unit that has answered none of three refreshes goes to FAULT (R53). -/
def State.takeSilent (s : State) (l : Nat) : State :=
  if s.lineActive l then
    match s.silentSeat l with
    | some n => s.faultLine l .noResponse (some (positionOfSeat n)) .noResponse
    | none => s
  else s

/-- The record a refresh sends to a seat: its entry, or a blank record while the line's indicator enable is clear or the
seat's kind is UNKNOWN (R75, R76). The enable is read as it stands when the record is sent, also where LINE_INDICATORS changed
it during the refresh (log 53), and neither record carries the loudspeaker field (log 54). -/
def State.recordFor (s : State) (n : Nat) : Lamps :=
  if (s.line (lineOfSeat n)).indicators && (s.seat n).kind != some .unknown then s.lamps n else blankLamps

/-- The position that the refresh under way of a line has reached, none where none is under way (R75). -/
def State.refreshAt (s : State) (l : Nat) : Option Nat := if s.lineActive l then (s.line l).refresh else none

/-- The position a step of the refresh takes a line to: 64, the end, unless the step says an earlier one. -/
def reachOf (reached : List Nat) (l : Nat) : Nat := min 64 (reached.getD l 64)

/-- A 100 ms cycle begins where no refresh is under way: each ACTIVE line begins its refresh (R75). A line whose silent unit
came due at the refresh before goes to FAULT first (log 4), the lines in line order (log 5). -/
def State.beginRefresh (s : State) : State :=
  if lineNumbers.any fun l => (s.refreshAt l).isSome then s
  else
    let t := lineNumbers.foldl State.takeSilent s
    t.setLines fun l x => { x with refresh := if t.lineActive l then some 0 else none }

/-- A step of the refresh sends a record to a seat: it is PRESENT, and its position lies past the one its line has reached and
not past the one this step reaches (R75). -/
def State.sendsTo (s : State) (reached : List Nat) (n : Nat) : Bool :=
  match s.refreshAt (lineOfSeat n) with
  | some at_ => (s.seat n).unit.isSome && at_ < positionOfSeat n && positionOfSeat n ≤ reachOf reached (lineOfSeat n)
  | none => false

/-- A step of the refresh at one seat: the record sent, and the miss count (R53, R75). -/
def State.refreshSeat (s : State) (reached silent : List Nat) (n : Nat) (t : Seat) : Seat :=
  if s.sendsTo reached n then
    { t with sent := some (s.recordFor n), miss := if silent.contains n then min 3 (t.miss + 1) else 0 }
  else t

/-- Where a line's refresh stands after a step of it: at the position reached, or ended with position 64 (R75). -/
def advanceRefresh (reach : Nat) : Option Nat → Option Nat
  | some at_ => if 64 ≤ reach then none else some (max at_ reach)
  | none => none

/-- One step of the refresh (R75): each record is taken from the indicator memory as it stands at the step that sends it. A
step that reaches position 64 on every line is a whole refresh, and a refresh may take several, so that what comes between
them is shown by the positions not yet sent (log 40). -/
def State.refresh (s : State) (reached silent : List Nat) : State :=
  let t := s.beginRefresh
  (t.setSeats seatNumbers (t.refreshSeat reached silent)).setLines fun l x =>
    { x with refresh := advanceRefresh (reachOf reached l) (t.refreshAt l) }

/-! ### Line events -/

/-- A line's current exceeds its limit in a powered state (R53). -/
def State.takeOvercurrent (s : State) (l : Nat) : State :=
  match (s.line l).phase with
  | .waking _ _ | .census _ | .active | .standby => s.faultLine l .overcurrent none .overcurrent
  | .off | .fault _ _ => s

/-- An estimate of the units drawing standby current that differs from the unit count sets the presence-changed flag
(R49). -/
def State.takeEstimate (s : State) (l estimate : Nat) : State :=
  match (s.line l).phase with
  | .standby =>
    if estimate = (s.line l).unitCount then s else s.setLine l fun x => { x with presenceChanged := true }
  | .off | .waking _ _ | .census _ | .active | .fault _ _ => s

/-- The wake time of a line in WAKING ends (R43, R52). -/
def State.takeWakeEnd (s : State) (l : Nat) : State :=
  match (s.line l).phase with
  | .waking origin _ => s.endWake l origin
  | .off | .census _ | .active | .standby | .fault _ _ => s

/-- A census slot ends (R44, R45). -/
def State.takeSlot (s : State) (l : Nat) (answer : Option UnitAnswer) : State :=
  match (s.line l).phase with
  | .census c =>
    if !c.awaitsSlot then s
    else match answer with
      | some a => s.censusAnswer l c a
      | none => s.faultLine l .noResponse (some (c.found.length + 1)) .noResponse
  | .off | .waking _ _ | .active | .standby | .fault _ _ => s

/-- A census completes (R46). -/
def State.takeCensusEnd (s : State) (l : Nat) : State :=
  match (s.line l).phase with
  | .census c => if c.awaitsEnd then s.completeCensus l c else s
  | .off | .waking _ _ | .active | .standby | .fault _ _ => s

/-! ### The rows -/

/-- LINE_POWER (R56). -/
def execLinePower (tag : Byte) (payload : List Byte) (s : State) : Host.Outcome State Fault Refusal :=
  .next (s.takeFrame 0x20#8 tag (match payload with
    | [l, policy, press, relight] => lineCommand l.toNat (linePower l.toNat policy press relight)
    | _ => badLength))

/-- LINE_WAKE (R51). -/
def execLineWake (tag : Byte) (payload : List Byte) (s : State) : Host.Outcome State Fault Refusal :=
  .next (s.takeFrame 0x21#8 tag (match payload with
    | [l] => lineCommand l.toNat (lineWake l.toNat)
    | _ => badLength))

/-- LINE_STANDBY (R48). -/
def execLineStandby (tag : Byte) (payload : List Byte) (s : State) : Host.Outcome State Fault Refusal :=
  .next (s.takeFrame 0x22#8 tag (match payload with
    | [l] => lineCommand l.toNat (lineStandby l.toNat)
    | _ => badLength))

/-- LINE_OFF (R54). -/
def execLineOff (tag : Byte) (payload : List Byte) (s : State) : Host.Outcome State Fault Refusal :=
  .next (s.takeFrame 0x23#8 tag (match payload with
    | [l] => lineCommand l.toNat (lineOff l.toNat)
    | _ => badLength))

/-- LINE_CENSUS (R55). -/
def execLineCensus (tag : Byte) (payload : List Byte) (s : State) : Host.Outcome State Fault Refusal :=
  .next (s.takeFrame 0x24#8 tag (match payload with
    | [l] => lineCommand l.toNat (lineCensus l.toNat)
    | _ => badLength))

/-- LINE_GET (R57). -/
def execLineGet (tag : Byte) (payload : List Byte) (s : State) : Host.Outcome State Fault Refusal :=
  .next (s.takeFrame 0x25#8 tag (match payload with
    | [l] => lineCommand l.toNat fun t => (t, .report (t.lineReport l.toNat))
    | _ => badLength))

/-- LINE_INDICATORS (R76). -/
def execLineIndicators (tag : Byte) (payload : List Byte) (s : State) : Host.Outcome State Fault Refusal :=
  .next (s.takeFrame 0x2A#8 tag (match payload with
    | [l, enable] => lineCommand l.toNat (lineIndicators l.toNat enable)
    | _ => badLength))

/-- INDICATOR_REFRESH (R75). -/
def execIndicatorRefresh (part : RefreshStep) (s : State) : Host.Outcome State Fault Refusal :=
  s.whenRunning (s.refresh part.reached part.silent)

/-- SILENT_UNIT (R53). -/
def execSilentUnit (line : Nat) (s : State) : Host.Outcome State Fault Refusal :=
  atLine line (s.whenRunning (s.takeSilent line))

/-- OVERCURRENT (R53). -/
def execOvercurrent (line : Nat) (s : State) : Host.Outcome State Fault Refusal :=
  atLine line (s.whenRunning (s.takeOvercurrent line))

/-- STANDBY_CURRENT_MEASUREMENT (R49). -/
def execStandbyCurrentMeasurement (line estimate : Nat) (s : State) : Host.Outcome State Fault Refusal :=
  atLine line (s.whenRunning (s.takeEstimate line estimate))

/-- WAKE_END (R43, R52). -/
def execWakeEnd (line : Nat) (s : State) : Host.Outcome State Fault Refusal :=
  atLine line (s.whenRunning (s.takeWakeEnd line))

/-- CENSUS_SLOT (R44, R45). -/
def execCensusSlot (line : Nat) (answer : Option UnitAnswer) (s : State) : Host.Outcome State Fault Refusal :=
  atLine line (s.whenRunning (s.takeSlot line answer))

/-- CENSUS_COMPLETE (R46). -/
def execCensusComplete (line : Nat) (s : State) : Host.Outcome State Fault Refusal :=
  atLine line (s.whenRunning (s.takeCensusEnd line))

end Sys2Proof.Machine
end

