-- ==== Sys2Proof/Machine/Seats.lean ====
section
/-! DEFINITION. The meanings of the seat commands (3.10, 4.3), of the end of a DENIED flash (R69) and of the seat events
(3.9). -/

namespace Sys2Proof.Machine

/-! ### Commands -/

/-- SEAT_PLACE (R61): a change of placement takes a chair out of its holder set, runs the advance rule (R109), and then
resets a listen selection of another room (R146). -/
def State.placeSeat (s : State) (n : Nat) (placement : Option Nat) : State :=
  (((s.leaveHolders n).setSeat n fun t => { t with set := { t.set with placement := placement } }).advance).languageSeatMoved n

/-- The checks of SEAT_PLACE in the order of R61. -/
def seatPlace (n : Nat) (placement : Nat) : Action := fun s =>
  if !isSeat n then (s, .refuse .outOfRange)
  else if 6 < placement then (s, .refuse .outOfRange)
  else if !s.seatActive n then (s, .refuse .lineDown)
  else if (s.speaker n).isSome || (s.request n).isSome then (s, .refuse .wrongState)
  else if s.placement n = optNumber placement then (s, .done)
  else (s.placeSeat n (optNumber placement), .done)

/-- SEAT_TRIM (R62). -/
def seatTrim (n : Nat) (trim : Coeff) : Action := fun s =>
  if !isSeat n then (s, .refuse .outOfRange)
  else if !s.seatActive n then (s, .refuse .lineDown)
  else (s.setSeat n fun t => { t with set := { t.set with trim := trim } }, .done)

/-- SEAT_GET (R63). -/
def seatGet (n : Nat) : Action := fun s =>
  if isSeat n then (s, .report (s.seatReport n)) else (s, .refuse .outOfRange)

/-- The text that characters make (R72): absent for none of them. -/
def textOf (characters : List Byte) : Option (List Byte) :=
  if characters.isEmpty then none else some (characters.map printable)

/-- SEAT_TEXT (R72). -/
def seatText (n count : Nat) (characters : List Byte) : Action := fun s =>
  if !isSeat n || 24 < count then (s, .refuse .outOfRange)
  else if characters.length ≠ count then (s, .refuse .badLength)
  else if !s.seatActive n then (s, .refuse .lineDown)
  else (s.setSeat n fun t => { t with text := textOf characters }, .done)

/-! ### Seat events -/

/-- A press from a line in STANDBY (R50): from a PRESENT seat of kind DELEGATE, CHAIR or DESK, with wake-on-press ON, it
begins a RESUME wake. -/
def State.wakePress (s : State) (n : Nat) : State :=
  match (s.seat n).kind with
  | some .delegate | some .chair | some .desk =>
    if (s.line (lineOfSeat n)).set.wakeOnPress then s.wakeLine (lineOfSeat n) .resume .press else s
  | some .unknown | none => s

/-- A TALK or PRIORITY_DOWN from an unplaced seat (R60, check 3). -/
def State.unplacedPress (s : State) (n : Nat) : State := (s.flash n).notify (.seatUnplaced n)

/-- A TALK on an ACTIVE line (R60). -/
def State.talkActive (s : State) (n : Nat) : State :=
  match (s.seat n).kind with
  | some .delegate => if (s.placement n).isNone then s.unplacedPress n else (s.delegateTalk n).advance
  | some .chair => if (s.placement n).isNone then s.unplacedPress n else (s.chairTalk n).advance
  | some .desk => s.deskTalk n
  | some .unknown | none => s

/-- A TALK by the state of the seat's line (R50, R60). -/
def State.takeTalk (s : State) (n : Nat) : State :=
  match (s.line (lineOfSeat n)).phase with
  | .active => s.talkActive n
  | .standby => s.wakePress n
  | .off | .waking _ _ | .census _ | .fault _ _ => s

/-- A PRIORITY_DOWN by the state of the seat's line (R50, R60, R91). -/
def State.takePriorityDown (s : State) (n : Nat) : State :=
  match (s.line (lineOfSeat n)).phase with
  | .active =>
    if (s.seat n).kind = some .chair then
      if (s.placement n).isNone then s.unplacedPress n else (s.chairPriorityDown n).advance
    else s
  | .standby => s.wakePress n
  | .off | .waking _ _ | .census _ | .fault _ _ => s

/-- A PRIORITY_UP of a placed chair on an ACTIVE line (R60, R92). -/
def State.takePriorityUp (s : State) (n : Nat) : State :=
  if s.seatActive n ∧ (s.seat n).kind = some .chair ∧ (s.placement n).isSome then (s.chairPriorityUp n).advance else s

/-- An OUTPUT_SELECT of a desk on an ACTIVE line (R60, R140). -/
def State.takeOutput (s : State) (n : Nat) (output : OutputSelect) : State :=
  if s.seatActive n ∧ (s.seat n).kind = some .desk then s.deskOutput n output else s

/-- An INPUT_SELECT of a desk on an ACTIVE line; a value above 24 is discarded (R60, R142). -/
def State.takeInput (s : State) (n value : Nat) : State :=
  if s.seatActive n ∧ (s.seat n).kind = some .desk ∧ value ≤ 24 then s.deskInput n value else s

/-- A LISTEN_SELECT of a delegate, chair or desk on an ACTIVE line; a value above 24 is discarded (R60, R145). -/
def State.takeListen (s : State) (n value : Nat) : State :=
  if s.seatActive n ∧ (s.seat n).unit.isSome ∧ (s.seat n).kind ≠ some .unknown ∧ value ≤ 24 then s.seatListen n value
  else s

/-- A DENIED flash ends (R69). -/
def State.endFlash (s : State) (n : Nat) : State := s.setSeat n fun t => { t with flash := none }

/-! ### The rows -/

/-- SEAT_PLACE (R61). -/
def execSeatPlace (tag : Byte) (payload : List Byte) (s : State) : Host.Outcome State Fault Refusal :=
  .next (s.takeFrame 0x26#8 tag (match payload with
    | [hi, lo, placement] => seatPlace (word2 hi lo) placement.toNat
    | _ => badLength))

/-- SEAT_TRIM (R62). -/
def execSeatTrim (tag : Byte) (payload : List Byte) (s : State) : Host.Outcome State Fault Refusal :=
  .next (s.takeFrame 0x27#8 tag (match payload with
    | [hi, lo, g1, g0] => seatTrim (word2 hi lo) (coeffOf g1 g0)
    | _ => badLength))

/-- SEAT_GET (R63). -/
def execSeatGet (tag : Byte) (payload : List Byte) (s : State) : Host.Outcome State Fault Refusal :=
  .next (s.takeFrame 0x28#8 tag (match payload with
    | [hi, lo] => seatGet (word2 hi lo)
    | _ => badLength))

/-- SEAT_TEXT (R72). -/
def execSeatText (tag : Byte) (payload : List Byte) (s : State) : Host.Outcome State Fault Refusal :=
  .next (s.takeFrame 0x29#8 tag (match payload with
    | hi :: lo :: count :: characters => seatText (word2 hi lo) count.toNat characters
    | _ => badLength))

/-- FLASH_END (R69). -/
def execFlashEnd (seat : Nat) (s : State) : Host.Outcome State Fault Refusal :=
  atSeat seat (s.whenRunning (s.endFlash seat))

/-- TALK (R60). -/
def execTalk (seat : Nat) (s : State) : Host.Outcome State Fault Refusal := atSeat seat (s.whenRunning (s.takeTalk seat))

/-- PRIORITY_DOWN (R91). -/
def execPriorityDown (seat : Nat) (s : State) : Host.Outcome State Fault Refusal :=
  atSeat seat (s.whenRunning (s.takePriorityDown seat))

/-- PRIORITY_UP (R92). -/
def execPriorityUp (seat : Nat) (s : State) : Host.Outcome State Fault Refusal :=
  atSeat seat (s.whenRunning (s.takePriorityUp seat))

/-- OUTPUT_SELECT (R140). -/
def execOutputSelect (seat : Nat) (output : OutputSelect) (s : State) : Host.Outcome State Fault Refusal :=
  atSeat seat (s.whenRunning (s.takeOutput seat output))

/-- INPUT_SELECT (R142). -/
def execInputSelect (seat value : Nat) (s : State) : Host.Outcome State Fault Refusal :=
  atSeat seat (s.whenRunning (s.takeInput seat value))

/-- LISTEN_SELECT (R145). -/
def execListenSelect (seat value : Nat) (s : State) : Host.Outcome State Fault Refusal :=
  atSeat seat (s.whenRunning (s.takeListen seat value))

end Sys2Proof.Machine
end

