-- ==== Sys2Proof/Machine/Image.lean ====
section
/-! DEFINITION. The settings image as bytes (R208): the CRC-32, the bytes it covers, and the image as a save writes it, as a
write cut short leaves it, and as a start checks it. -/

namespace Sys2Proof.Machine

/-! ### CRC-32 -/

/-- The bits of a byte, least significant bit first (R208). -/
def byteBits (b : Byte) : List Bool := (List.range 8).map b.getLsbD

/-- The CRC-32 register after a stream of bits, in its reflected form: the generator 04C11DB7h read from its last bit (R208). -/
def crc32Bits (r : BitVec 32) : List Bool → BitVec 32
  | [] => r
  | b :: bs => bif r.getLsbD 0 ^^ b then crc32Bits ((r >>> 1) ^^^ 0xEDB88320#32) bs else crc32Bits (r >>> 1) bs

/-- The CRC-32 of the settings image (R208): register start FFFFFFFFh, the result inverted at the end. -/
def crc32 (bs : List Byte) : BitVec 32 := ~~~ (crc32Bits 0xFFFFFFFF#32 (bs.flatMap byteBits))

/-! ### The bytes of the image, in the order of Table 10-2 (the layout is internal to the part, log 19) -/

/-- A wall's stored settings. -/
def WallSettings.bytes (w : WallSettings) : List Byte :=
  [codeIn policyValues w.policy, codeIn joinValues w.held, byte w.settleTime]

/-- A segment's stored settings. -/
def Segment.bytes (g : Segment) : List Byte := codeIn privacyValues g.privacy :: templateBytes g.template

/-- A seat's stored settings. -/
def SeatSettings.bytes (x : SeatSettings) : List Byte := optByte x.placement :: coeffBytes x.trim ++ [optByte x.booth]

/-- A channel's stored settings. -/
def Channel.bytes (c : Channel) : List Byte := [flagByte c.enabled, c.tag.c1, c.tag.c2, c.tag.c3, byte c.home]

/-- A booth's stored settings. -/
def Booth.bytes (b : Booth) : List Byte :=
  [flagByte b.enabled, byte b.home, byte b.a, byte b.b, codeIn interlockValues b.interlock]

/-- A monitor's route. -/
def Route.bytes (r : Route) : List Byte := [routeKindByte r, byte (routeNumber r)]

/-- A line's stored settings. -/
def LineSettings.bytes (x : LineSettings) : List Byte :=
  [codeIn powerPolicyValues x.powerPolicy, flagByte x.wakeOnPress, flagByte x.autoRelight]

/-- The bytes of the image before its CRC-32. -/
def Settings.bytes (x : Settings) : List Byte :=
  [codeIn profileValues x.pendingProfile] ++ x.walls.flatMap WallSettings.bytes ++ x.segments.flatMap Segment.bytes ++
    bytes2 x.fadeTime ++ x.seats.flatMap SeatSettings.bytes ++ x.channels.flatMap Channel.bytes ++
    x.booths.flatMap Booth.bytes ++ x.monitors.flatMap Route.bytes ++ x.lines.flatMap LineSettings.bytes ++
    [x.mask, flagByte x.attn.enable, codeIn attnModeValues x.attn.mode, byte x.attn.width, byte x.period]

/-- The CRC-32 of a settings image (R208). -/
def Settings.check (x : Settings) : BitVec 32 := crc32 x.bytes

/-! ### The image -/

/-- The image is valid while its CRC-32 matches its contents (R208). -/
def Image.valid (i : Image) : Bool := i.crc == i.contents.check

/-- The image that a completed write leaves (R208, R210). -/
def Settings.sealed (x : Settings) : Image := { contents := x, crc := x.check }

/-- The image that a write not completed, or completed badly, leaves: its CRC-32 does not match (R208 to R211, log 19). -/
def Image.spoiled (i : Image) : Image := { i with crc := ~~~i.contents.check }

end Sys2Proof.Machine
end

