-- ==== Sys2Proof/Machine/StartOps.lean ====
section
/-! DEFINITION. The settings store's shared procedures: the snapshot of the live settings (R209), the start sequence
(R214) and the holding of the part (R213). -/

namespace Sys2Proof.Machine

/-! ### The settings image -/

/-- Every live setting of Table 10-2 (R209). -/
def State.snapshot (s : State) : Settings :=
  { pendingProfile := s.sts.pending
    walls := s.ptu.walls.map (·.set)
    segments := s.ptu.segments
    fadeTime := s.ptu.fadeTime
    seats := s.slc.seats.map (·.set)
    channels := s.lgr.channels
    booths := s.lgr.booths
    monitors := s.lgr.monitors
    lines := s.slc.lines.map (·.set)
    mask := s.ctp.mask
    attn := s.ctp.attn
    period := s.ctp.period }

/-- The settings a start loads: the image's while its CRC-32 matches, otherwise the factory defaults (R214, step 2). -/
def State.loaded (s : State) : Settings := if s.sts.image.valid then s.sts.image.contents else factorySettings

/-! ### The hall at a start (R20) -/

/-- The requested join of a wall at a start: a wall under FOLLOW whose first settled state is FAULT requests SPLIT. -/
def startRequest (w : WallSettings) (settled : Sensor) : Join :=
  match w.policy with
  | .held => w.held
  | .follow => if settled = .opened then .joined else .split

/-- A wall at a start under its settings, its first reading, and whether the segments beside it differ in privacy. -/
def startWall (w : WallSettings) (reading : Byte) (differs : Bool) : Wall :=
  let request := startRequest w (bandOf reading)
  let conflict := request == .joined && differs
  let target := if conflict then .split else request
  { set := w, lastReading := reading, settled := bandOf reading, faultKind := faultKindOf reading, timer := none,
    expired := false, requested := request, target := target, current := target, conflict := conflict }

/-- The five walls at a start. -/
def startWalls (x : Settings) (readings : Readings) : List Wall :=
  let privacy := fun g => (x.segments.getD (g - 1) factorySegment).privacy
  wallNumbers.map fun k =>
    startWall (x.walls.getD (k - 1) factoryWall) (readingOf readings k) (privacy k != privacy (k + 1))

/-- A room of the initial map: STEADY at K (R20, step 4). -/
def startRoom (k : Nat) (r : Nat × Nat) : Room := { lead := r.1, last := r.2, position := k, direction := .steady }

/-- The partition unit at a start (R20). -/
def startPtu (x : Settings) (readings : Readings) : Ptu :=
  let walls := startWalls x readings
  let k := x.fadeTime * Config.framesPerMs
  { walls := walls
    segments := x.segments
    fadeTime := x.fadeTime
    rooms := (mapOf (walls.map (·.current))).map (startRoom k)
    seq := .idle
    targets := walls.map (·.target)
    affected := []
    k := k
    remapDue := false
    fadeDone := false }

/-! ### The other blocks at a start -/

/-- The control port right after the clearing and loading steps (R204, R214 steps 1 and 2). No transfer is in progress, so
that inbound assembly waits for the first that begins after the start (R204), and data out carries 00h for the rest of one that
a RESTART abandons (log 56). A pulse of ATTN in progress ends (log 43). -/
def startCtp (x : Settings) : Ctp :=
  { mask := x.mask, attn := x.attn, pulses := 0, pulse := .idle, period := x.period, absenceFrames := 0,
    autonomous := false, replies := [], notices := [], loss := 0, transfer := none }

/-- The lines and seats before the line starts (R64). -/
def startSlc (x : Settings) : Slc := { lines := x.lines.map startLine, seats := x.seats.map startSeat }

/-- The channel and booth tables and the monitor routes as loaded (R154). -/
def startLgr (x : Settings) : Lgr := { channels := x.channels, booths := x.booths, monitors := x.monitors }

/-- A monitor route whose source is PRIVATE is set to none, without notice (R154). -/
def State.dropPrivateRoutes (s : State) : State :=
  let keep := fun r => if s.routePrivate r then Route.none else r
  { s with lgr := { s.lgr with monitors := s.lgr.monitors.map keep } }

/-- The mix engine at a start: a set for each room of the initial map and clear clip records (R158). Every output stands at 0,
after a RESTART too (log 44). -/
def State.startMix (s : State) : State :=
  { s with mxe :=
    { rooms := s.freshMixes, channels := List.replicate 24 clearClip, computed := silentAudio, leaving := silentAudio,
      begun := false } }

/-- The line starts: each line under AT_START goes from OFF to WAKING, with LINE_STATE cause START (R64), in the order of lines
0 to 3 (log 47). -/
def State.startLines (s : State) : State :=
  lineNumbers.foldl (fun t l =>
    if (s.line l).set.powerPolicy = .atStart then t.wakeLine l .start .start else t) s

/-- The active profile of the run that a start begins (R214 step 3, R215). -/
def startProfile (cause : ResetCause) (active pending : Profile) : Profile :=
  match cause with
  | .cold => pending
  | .pin | .command => active

/-- The settings store right after loading (R214, steps 1 to 3). -/
def startSts (cause : ResetCause) (x : Settings) (t : Sts) : Sts :=
  { image := t.image, saving := none, active := startProfile cause t.active x.pendingProfile, pending := x.pendingProfile,
    status := if t.image.valid then .valid else .invalid, cause := cause }

/-- Steps 1 to 4 of R214, before any notice: cleared records under the loaded settings, and the initial map. -/
def State.startLoad (cause : ResetCause) (readings : Readings) (s : State) : State :=
  { ctp := startCtp s.loaded
    ptu := startPtu s.loaded readings
    slc := startSlc s.loaded
    flc := emptyFlc
    lgr := startLgr s.loaded
    mxe := s.mxe
    sts := startSts cause s.loaded s.sts
    stamp := 0#40
    powered := s.powered
    resetLow := s.resetLow
    started := true
    pending := s.pending }

/-- STORE_INVALID where the image failed its check (R214, step 2). -/
def State.storeNotice (s : State) : State := if s.sts.status = .invalid then s.notify .storeInvalid else s

/-- START (R214, step 8). -/
def State.startNotice (s : State) : State :=
  s.notify (.start s.sts.cause s.sts.active s.sts.pending s.sts.status)

/-- The start sequence (R214); the wall inputs read `readings` at its measurement. -/
def State.startSequence (cause : ResetCause) (readings : Readings) (s : State) : State :=
  (s.startLoad cause readings).storeNotice.dropPrivateRoutes.startMix.startLines.startNotice

/-! ### Holding the part -/

/-- The part becomes held (R213): a save in progress is cut short, its image staying invalid (R211); the transfer in
progress is abandoned, data out carrying 00h from then on (log 56), and every audio output carries 0 (log 22). -/
def State.hold (s : State) : State :=
  { s with
    sts := { s.sts with saving := none }
    ctp := { s.ctp with transfer := none, pulse := .idle }
    mxe := { s.mxe with computed := silentAudio, leaving := silentAudio, begun := false } }

end Sys2Proof.Machine
end

