-- ==== Sys2Proof/Machine/Store.lean ====
section
/-! DEFINITION. The meanings of the settings store's commands and of the power and reset events (chapter 10). -/

namespace Sys2Proof.Machine

/-! ### Saving and profiles -/

/-- SETTINGS_SAVE (R209): the snapshot is taken and its write begins, the image being invalid from then on; BUSY during a
save. -/
def saveSettings : Action := fun s =>
  match s.sts.saving with
  | some _ => (s, .refuse .busy)
  | none =>
    ({ s with sts := { s.sts with saving := some s.snapshot, image := s.sts.image.spoiled } }, .done)

/-- PROFILE_SET (R207). -/
def setProfile (profile : Byte) : Action := fun s =>
  match pick profileValues profile with
  | none => (s, .refuse .outOfRange)
  | some p => ({ s with sts := { s.sts with pending := p } }, .plain .pending [codeIn profileValues p])

/-- The write of a snapshot ends, and the image is read back and its CRC-32 checked (R210); `good` is whether the write went
well (log 20). -/
def State.saveEnds (s : State) (good : Bool) : State :=
  match s.sts.saving with
  | none => s
  | some x =>
    let image := if good then x.sealed else s.sts.image.spoiled
    ({ s with sts := { s.sts with saving := none, image := image } }).notify
      (.storeDone (if image.valid then .ok else .writeFailed))

/-! ### FACTORY_DEFAULTS (R212) -/

/-- Steps 1 and 2: the pending profile, and the control port's settings (R204). -/
def State.defaultPort (s : State) : State :=
  let t := { s with
    sts := { s.sts with pending := .balanced }
    ctp := { s.ctp with mask := 0xFF#8, period := 0, absenceFrames := 0 } }
  t.setAttn factoryAttn

/-- Step 3 for one seat whose placement changes (R65, R110): its floor state ends with cause HOST, then it is unplaced. -/
def State.unplaceSeat (s : State) (n : Nat) : State :=
  ((s.clearSeat n .host .host).leaveHolders n).setSeat n fun t => { t with set := { t.set with placement := none } }

/-- Step 3: the lines' stored settings, every seat's placement in seat order, and every trim. -/
def State.defaultSeats (s : State) : State :=
  let t := { s with slc := { s.slc with lines := s.slc.lines.map fun x => { x with set := factoryLine } } }
  let u := (seatNumbers.filter fun n => (s.placement n).isSome).foldl State.unplaceSeat t
  u.setSeats seatNumbers fun _ x => { x with set := { x.set with trim := factorySeat.trim } }

/-- The channel and booth tables at their defaults and every desk list empty (R157). -/
def State.defaultTables (s : State) : State :=
  let t := { s with lgr := { s.lgr with
    channels := List.replicate 24 factoryChannel
    booths := List.replicate 16 factoryBooth } }
  t.setSeats seatNumbers fun _ x => { x with set := { x.set with booth := none }, desk := freshDesk }

/-- Every listen channel other than 0 is set to 0, with one LISTEN_RESET of room 0 (R157, log 39). -/
def State.defaultListens (s : State) : State :=
  let count := (seatNumbers.filter fun n => (s.seat n).listen != 0).length
  (s.setSeats seatNumbers fun _ x => { x with listen := 0 }).notify (.listenReset 0 count)

/-- Step 4 (R157); booths that were parked send BOOTH_UNPARKED in booth-number order (log 55). -/
def State.defaultLanguages (s : State) : State :=
  let s1 := (s.desksOff seatNumbers .host).defaultTables.clearMonitors (fun r => r != .none) .host
  ((s1.roleNotices s).unparkNotices s).defaultListens

/-- The new settings in force of one room are handed to the floor controller and the mix engine (R18, R22). -/
def State.handSettings (s : State) (lead : Nat) (old : Template) : State := (s.applySettings lead old).refreshMix lead

/-- Step 5 (R22): the hall's settings, the five walls worked out again in order (log 13), then each room's settings. -/
def State.defaultHall (s : State) : State :=
  let t := { s with ptu := { s.ptu with
    fadeTime := factoryFadeTime
    segments := List.replicate 6 factorySegment
    walls := s.ptu.walls.map fun w => { w with set := factoryWall } } }
  let u := wallNumbers.foldl State.rework t
  u.leads.foldl (fun v lead => v.handSettings lead (s.settings lead)) u

/-- FACTORY_DEFAULTS: the six steps of R212. -/
def factoryDefaults : Action := fun s =>
  (s.defaultPort.defaultSeats.defaultLanguages.defaultHall.advance, .done)

/-! ### Power and reset -/

/-- Power has become stable (R213): a cold start, or a held part where RESET is low. -/
def State.applyPower (s : State) (walls : Readings) : State :=
  if s.powered then s
  else if s.resetLow then { s with powered := true, started := false }
  else ({ s with powered := true }).startSequence .cold walls

/-- Power is lost (R211, R213). -/
def State.losePower (s : State) : State := { s.hold with powered := false, started := false }

/-- RESET is held low (R213). -/
def State.assertReset (s : State) : State := if s.resetLow then s else { s.hold with resetLow := true }

/-- RESET is released (R213): a warm reset with cause PIN, or a cold start where the part has not run since power was
applied. Without power the part stays held. -/
def State.releaseReset (s : State) (walls : Readings) : State :=
  if !s.resetLow then s
  else
    let t := { s with resetLow := false }
    if !s.powered then t else t.startSequence (if s.started then .pin else .cold) walls

/-! ### The rows -/

/-- RESTART (R204, R213): a warm reset with cause COMMAND and no reply frame. -/
def execRestart (tag : Byte) (payload : List Byte) (walls : Readings) (s : State) : Host.Outcome State Fault Refusal :=
  .next (s.takeFrame 0x02#8 tag (noFields payload fun t => (t.startSequence .command walls, .silent)))

/-- SETTINGS_SAVE (R209). -/
def execSettingsSave (tag : Byte) (payload : List Byte) (s : State) : Host.Outcome State Fault Refusal :=
  .next (s.takeFrame 0x06#8 tag (noFields payload saveSettings))

/-- PROFILE_SET (R207). -/
def execProfileSet (tag : Byte) (payload : List Byte) (s : State) : Host.Outcome State Fault Refusal :=
  .next (s.takeFrame 0x07#8 tag (match payload with
    | [profile] => setProfile profile
    | _ => badLength))

/-- FACTORY_DEFAULTS (R212). -/
def execFactoryDefaults (tag : Byte) (payload : List Byte) (s : State) : Host.Outcome State Fault Refusal :=
  .next (s.takeFrame 0x08#8 tag (noFields payload factoryDefaults))

/-- SAVE_WRITE_COMPLETE (R210). -/
def execSaveWriteComplete (good : Bool) (s : State) : Host.Outcome State Fault Refusal := s.whenRunning (s.saveEnds good)

/-- POWER_UP (R213). -/
def execPowerUp (walls : Readings) (s : State) : Host.Outcome State Fault Refusal := .next (s.applyPower walls)

/-- POWER_LOSS (R211). -/
def execPowerLoss (s : State) : Host.Outcome State Fault Refusal := .next s.losePower

/-- RESET_ASSERT (R213). -/
def execResetAssert (s : State) : Host.Outcome State Fault Refusal := .next s.assertReset

/-- RESET_RELEASE (R213, R215). -/
def execResetRelease (walls : Readings) (s : State) : Host.Outcome State Fault Refusal := .next (s.releaseReset walls)

end Sys2Proof.Machine
end

