-- ==== Sys2Proof/Machine/Dispatch.lean ====
section
/-! DEFINITION. One arm for each row of spec/opcode_table.json. -/

namespace Sys2Proof.Machine

def exec (i : Instr) (s : State) : Host.Outcome State Fault Refusal :=
  match i with
  | .statusGet tag payload => Sys2Proof.Machine.execStatusGet tag payload s
  | .restart tag payload walls => Sys2Proof.Machine.execRestart tag payload walls s
  | .noticeMask tag payload => Sys2Proof.Machine.execNoticeMask tag payload s
  | .attnSet tag payload => Sys2Proof.Machine.execAttnSet tag payload s
  | .supervisionSet tag payload => Sys2Proof.Machine.execSupervisionSet tag payload s
  | .settingsSave tag payload => Sys2Proof.Machine.execSettingsSave tag payload s
  | .profileSet tag payload => Sys2Proof.Machine.execProfileSet tag payload s
  | .factoryDefaults tag payload => Sys2Proof.Machine.execFactoryDefaults tag payload s
  | .wallPolicy tag payload => Sys2Proof.Machine.execWallPolicy tag payload s
  | .wallSet tag payload => Sys2Proof.Machine.execWallSet tag payload s
  | .segmentPrivacy tag payload => Sys2Proof.Machine.execSegmentPrivacy tag payload s
  | .fadeTime tag payload => Sys2Proof.Machine.execFadeTime tag payload s
  | .roomTemplate tag payload => Sys2Proof.Machine.execRoomTemplate tag payload s
  | .hallGet tag payload => Sys2Proof.Machine.execHallGet tag payload s
  | .linePower tag payload => Sys2Proof.Machine.execLinePower tag payload s
  | .lineWake tag payload => Sys2Proof.Machine.execLineWake tag payload s
  | .lineStandby tag payload => Sys2Proof.Machine.execLineStandby tag payload s
  | .lineOff tag payload => Sys2Proof.Machine.execLineOff tag payload s
  | .lineCensus tag payload => Sys2Proof.Machine.execLineCensus tag payload s
  | .lineGet tag payload => Sys2Proof.Machine.execLineGet tag payload s
  | .seatPlace tag payload => Sys2Proof.Machine.execSeatPlace tag payload s
  | .seatTrim tag payload => Sys2Proof.Machine.execSeatTrim tag payload s
  | .seatGet tag payload => Sys2Proof.Machine.execSeatGet tag payload s
  | .seatText tag payload => Sys2Proof.Machine.execSeatText tag payload s
  | .lineIndicators tag payload => Sys2Proof.Machine.execLineIndicators tag payload s
  | .micOpen tag payload => Sys2Proof.Machine.execMicOpen tag payload s
  | .micClose tag payload => Sys2Proof.Machine.execMicClose tag payload s
  | .roomCloseAll tag payload => Sys2Proof.Machine.execRoomCloseAll tag payload s
  | .requestAdd tag payload => Sys2Proof.Machine.execRequestAdd tag payload s
  | .requestRemove tag payload => Sys2Proof.Machine.execRequestRemove tag payload s
  | .grantNext tag payload => Sys2Proof.Machine.execGrantNext tag payload s
  | .queueClear tag payload => Sys2Proof.Machine.execQueueClear tag payload s
  | .roomGet tag payload => Sys2Proof.Machine.execRoomGet tag payload s
  | .speechExtend tag payload => Sys2Proof.Machine.execSpeechExtend tag payload s
  | .talkTotalClear tag payload => Sys2Proof.Machine.execTalkTotalClear tag payload s
  | .channelSetup tag payload => Sys2Proof.Machine.execChannelSetup tag payload s
  | .boothSetup tag payload => Sys2Proof.Machine.execBoothSetup tag payload s
  | .deskAssign tag payload => Sys2Proof.Machine.execDeskAssign tag payload s
  | .languageGet tag payload => Sys2Proof.Machine.execLanguageGet tag payload s
  | .monitorRoute tag payload => Sys2Proof.Machine.execMonitorRoute tag payload s
  | .clipGet tag payload => Sys2Proof.Machine.execClipGet tag payload s
  | .unknownKind kind tag payload => Sys2Proof.Machine.execUnknownKind kind tag payload s
  | .frameCheckFailed kind tag payload check => Sys2Proof.Machine.execFrameCheckFailed kind tag payload check s
  | .frameLengthExcess length => Sys2Proof.Machine.execFrameLengthExcess length s
  | .transferStart => Sys2Proof.Machine.execTransferStart s
  | .outboundFrameSent => Sys2Proof.Machine.execOutboundFrameSent s
  | .chipSelectRelease received => Sys2Proof.Machine.execChipSelectRelease received s
  | .attnPulse => Sys2Proof.Machine.execAttnPulse s
  | .hostAbsenceExpiry => Sys2Proof.Machine.execHostAbsenceExpiry s
  | .powerUp walls => Sys2Proof.Machine.execPowerUp walls s
  | .powerLoss => Sys2Proof.Machine.execPowerLoss s
  | .resetAssert => Sys2Proof.Machine.execResetAssert s
  | .resetRelease walls => Sys2Proof.Machine.execResetRelease walls s
  | .wallMeasurement walls => Sys2Proof.Machine.execWallMeasurement walls s
  | .settleExpiry wall => Sys2Proof.Machine.execSettleExpiry wall s
  | .audioFrame samples => Sys2Proof.Machine.execAudioFrame samples s
  | .remap => Sys2Proof.Machine.execRemap s
  | .fadeComplete => Sys2Proof.Machine.execFadeComplete s
  | .remapTimerCheck => Sys2Proof.Machine.execRemapTimerCheck s
  | .speechSecond seat => Sys2Proof.Machine.execSpeechSecond seat s
  | .indicatorRefresh part => Sys2Proof.Machine.execIndicatorRefresh part s
  | .silentUnit line => Sys2Proof.Machine.execSilentUnit line s
  | .overcurrent line => Sys2Proof.Machine.execOvercurrent line s
  | .standbyCurrentMeasurement line estimate => Sys2Proof.Machine.execStandbyCurrentMeasurement line estimate s
  | .wakeEnd line => Sys2Proof.Machine.execWakeEnd line s
  | .censusSlot line answer => Sys2Proof.Machine.execCensusSlot line answer s
  | .censusComplete line => Sys2Proof.Machine.execCensusComplete line s
  | .flashEnd seat => Sys2Proof.Machine.execFlashEnd seat s
  | .saveWriteComplete good => Sys2Proof.Machine.execSaveWriteComplete good s
  | .talk seat => Sys2Proof.Machine.execTalk seat s
  | .priorityDown seat => Sys2Proof.Machine.execPriorityDown seat s
  | .priorityUp seat => Sys2Proof.Machine.execPriorityUp seat s
  | .outputSelect seat output => Sys2Proof.Machine.execOutputSelect seat output s
  | .inputSelect seat value => Sys2Proof.Machine.execInputSelect seat value s
  | .listenSelect seat value => Sys2Proof.Machine.execListenSelect seat value s

end Sys2Proof.Machine
end

