-- ==== Sys2Proof/Safety.lean ====
section
/-! DEFINITION. What counts as a safe run, and the terms in which statements speak of the part: when it takes a command, what
a reply leaves, and the bounds that every step keeps. -/

namespace Sys2Proof.Machine

/-! ### Taking a command -/

/-- The state in which a valid frame's command is handled: the transfer's inbound frame is taken, an autonomous part has
heard its host again, and the absence timer has restarted (R184, R185, R201). -/
def State.heard (s : State) : State := s.markInbound.hostHeard

/-- The part takes a valid frame now and has places for n reply frames (R184, R187, R213). -/
structure Accepts (s : State) (n : Nat) : Prop where
  running : s.running = true
  listening : s.inboundIgnored = false
  places : s.heard.hasRoom n = true

/-- The state after a command of Table 9-4 is answered by one frame without reply data: OK or a refusal under the command's
kind plus 80h (R188). -/
def State.replied (s : State) (kind tag : Byte) (code : ResultCode) : State :=
  s.queueReplies [{ kind := kind + 0x80#8, tag := tag, payload := [code.byte] }]

/-- The state after a report (R189). -/
def State.reported (s : State) (kind tag : Byte) (bytes : List Byte) : State :=
  s.queueReplies ((Reply.report bytes).frames kind tag)

/-- The payload length Table 9-4 gives a kind; none for SEAT_TEXT, whose length varies, and for kinds outside the table. -/
def payloadLength (kind : Byte) : Option Nat :=
  match kind.toNat with
  | 0x01 | 0x02 | 0x06 | 0x08 | 0x15 | 0x43 | 0x50 => some 0
  | 0x03 | 0x05 | 0x07 | 0x21 | 0x22 | 0x23 | 0x24 | 0x25 | 0x32 | 0x35 | 0x36 | 0x37 => some 1
  | 0x11 | 0x12 | 0x13 | 0x28 | 0x2A | 0x30 | 0x31 | 0x33 | 0x34 => some 2
  | 0x04 | 0x10 | 0x26 | 0x39 | 0x42 | 0x44 => some 3
  | 0x20 | 0x27 | 0x38 => some 4
  | 0x40 | 0x41 => some 6
  | 0x14 => some 15
  | _ => none

/-- The power and reset events, which act on a held part too (R213). -/
def isPowerEvent : Instr → Bool
  | .powerUp _ | .powerLoss | .resetAssert | .resetRelease _ => true
  | _ => false

/-! ### Frames -/

/-- Nothing outside the partition unit and the control port differs between two states. -/
structure SameOutsideHall (s t : State) : Prop where
  slc : t.slc = s.slc
  flc : t.flc = s.flc
  lgr : t.lgr = s.lgr
  mxe : t.mxe = s.mxe
  sts : t.sts = s.sts
  stamp : t.stamp = s.stamp
  powered : t.powered = s.powered
  resetLow : t.resetLow = s.resetLow
  started : t.started = s.started
  pending : t.pending = s.pending

/-- What no floor event changes: the hall, the languages, the mix engine, the store, the pins, the lines, and of each seat
everything but its talk total and its DENIED flash. -/
structure SameOutsideFloor (s t : State) : Prop where
  ptu : t.ptu = s.ptu
  lines : t.slc.lines = s.slc.lines
  lgr : t.lgr = s.lgr
  mxe : t.mxe = s.mxe
  sts : t.sts = s.sts
  powered : t.powered = s.powered
  resetLow : t.resetLow = s.resetLow
  started : t.started = s.started
  pending : t.pending = s.pending
  seats : ∀ n, ({ t.seat n with talkTotal := 0, flash := none } : Seat) =
    { s.seat n with talkTotal := 0, flash := none }
  replies : t.ctp.replies = s.ctp.replies
  port : t.ctp.mask = s.ctp.mask ∧ t.ctp.attn = s.ctp.attn ∧ t.ctp.period = s.ctp.period ∧
    t.ctp.autonomous = s.ctp.autonomous ∧ t.ctp.transfer = s.ctp.transfer ∧
    t.ctp.absenceFrames = s.ctp.absenceFrames

/-- No seat of a line is open, queued, holding priority or a live desk. -/
structure LineCleared (s : State) (l : Nat) : Prop where
  microphones : ∀ e ∈ s.flc.speakers, lineOfSeat e.seat ≠ l
  requests : ∀ q ∈ s.flc.queue, lineOfSeat q.seat ≠ l
  holders : ∀ n ∈ s.flc.holders, lineOfSeat n ≠ l
  desks : ∀ n ∈ seatsOfLine l, s.deskIsLive n = false

/-- Every seat of a line is ABSENT, with its miss count 0 and its flash idle. -/
def LineAbsent (s : State) (l : Nat) : Prop :=
  ∀ n ∈ seatsOfLine l, (s.seat n).unit = none ∧ (s.seat n).miss = 0 ∧ (s.seat n).flash = none

/-- No audio frame is under way, and nothing has come due that one would take first (log 4). -/
structure NothingDue (s : State) : Prop where
  checks : s.flc.checksDue = []
  seconds : ∀ e ∈ s.flc.speakers, e.secondDue = false
  fade : s.ptu.fadeDone = false
  remap : s.ptu.remapDue = false
  begun : s.mxe.begun = false

/-- The state an event leaves; the state itself where the event stops. -/
def State.afterEvent (s : State) (i : Instr) : State :=
  match exec i s with
  | .next t => t
  | _ => s

/-- The state once every timer check due at the audio frame under way has been taken by its row (R122). -/
def State.checksTaken (s : State) : State := s.flc.checksDue.foldl (fun t _ => t.afterEvent .remapTimerCheck) s

/-- The state once everything that the audio frame before brought about has been taken by its row: the timer checks, the
speech seconds in list order, the end of the fades, the remap. That order is the model's choice (log 5). -/
def State.dueTaken (s : State) : State :=
  let checked := s.checksTaken
  let counted := (checked.flc.speakers.map (·.seat)).foldl (fun t n => t.afterEvent (.speechSecond n)) checked
  (counted.afterEvent .fadeComplete).afterEvent .remap

/-- The state once every settle whose expiry is marked has been taken by its row, in wall order (log 4, log 5). -/
def State.settlesTaken (s : State) : State := [1, 2, 3, 4, 5].foldl (fun t k => t.afterEvent (.settleExpiry k)) s

/-- A sample lies in the range of 24 bits (R171). -/
def inRange (x : Int) : Prop := -8388608 ≤ x ∧ x ≤ 8388607

/-- Every sample of one audio frame's outputs lies in range (R171). -/
structure Audio.InRange (a : Audio) : Prop where
  channels : ∀ x ∈ a.channels, inRange x
  pa : ∀ x ∈ a.pa, inRange x
  monitors : ∀ x ∈ a.monitors, inRange x
  headphones : ∀ x, some x ∈ a.headphones → inRange x
  loudspeakers : ∀ x, some x ∈ a.loudspeakers → inRange x
  deskHeadphones : ∀ x, some x ∈ a.deskHeadphones → inRange x

/-- Every sample the part holds for its outputs lies in range (R171). -/
structure AudioInRange (s : State) : Prop where
  computed : s.mxe.computed.InRange
  leaving : s.mxe.leaving.InRange

/-! ### Steps of procedures -/

/-- State v is state s with an audio frame begun and nothing else due: every room has moved by one place (R26), the remap
condition (R33) and the end of the fades (R31, R37) have been tested, running speech timers have counted (R116), the timer
checks of the remap before are due (R122), and the times kept in audio frames have moved on: wake times, DENIED flashes, the
host absence timer (log 7). A room UP that stands at K becomes STEADY (log 12). -/
structure FrameBegun (s v : State) : Prop where
  kept : v = { s with
    ptu := { s.ptu with rooms := v.ptu.rooms, remapDue := v.ptu.remapDue, fadeDone := v.ptu.fadeDone }
    slc := v.slc
    flc := { s.flc with speakers := v.flc.speakers, checksDue := s.flc.checksWaiting, checksWaiting := [] }
    ctp := { s.ctp with absenceFrames :=
      if s.ctp.period = 0 then 0 else min (65535 * 48000) (s.ctp.absenceFrames + 1) }
    mxe := { s.mxe with begun := true } }
  rooms : v.ptu.rooms = s.ptu.rooms.map fun r => match r.direction with
    | .steady => r
    | .down => { r with position := r.position - 1 }
    | .up => if r.position + 1 < s.ptu.k then { r with position := r.position + 1 }
      else { r with position := s.ptu.k, direction := .steady }
  remap : v.ptu.remapDue = true ↔ s.ptu.affected ≠ [] ∧ ∀ lead ∈ s.ptu.affected, (v.room lead).position = 0
  ended : v.ptu.fadeDone = true ↔ s.ptu.seq ≠ .idle ∧ s.ptu.affected = [] ∧ ∀ r ∈ v.ptu.rooms, r.direction = .steady
  timers : v.flc.speakers = s.flc.speakers.map fun e =>
    if e.kind = .delegate ∧ e.muted = false then
      if e.frames + 1 < 48000 then { e with frames := e.frames + 1 }
      else if e.seconds < 65535 then { e with secondDue := true } else { e with frames := 0 }
    else e
  lines : ∀ l, v.line l = { s.line l with phase := match (s.line l).phase with
    | .waking o r => .waking o (r - 1)
    | p => p }
  seats : ∀ n, v.seat n = { s.seat n with flash := (s.seat n).flash.map (· - 1) }

/-- State u is state s with the effective target and the conflict flag of wall k worked out again from its requested join in
u, its record otherwise as in u: WALL_CONFLICT joins the port c where the flag has changed (R9), and where the effective
target has, the sequencer receives the target vector (R10). -/
structure WallChecked (s : State) (c : Ctp) (k : Nat) (u : State) : Prop where
  conflict : (u.wall k).conflict = ((u.wall k).requested == .joined && s.privacy k != s.privacy (k + 1))
  target : (u.wall k).target = (if (u.wall k).conflict then .split else (u.wall k).requested)
  others : ∀ j, 1 ≤ j → j ≤ 5 → j ≠ k → u.wall j = s.wall j
  told :
    let told := if (u.wall k).conflict = (s.wall k).conflict then c
      else c.notify (.wallConflict k (u.wall k).conflict (s.privacy k) (s.privacy (k + 1)))
    let v := { s with ptu := { s.ptu with walls := u.ptu.walls }, ctp := told }
    u = if (u.wall k).target = (s.wall k).target then v else v.receiveTargets

/-! ### Bounds -/

/-- The queues' bounds: at most 8 replies (R191), 56 notices and a loss count of 255 (R192), 64 pending pulses (R197). -/
structure QueuesBounded (s : State) : Prop where
  replies : s.ctp.replies.length ≤ 8
  notices : s.ctp.notices.length ≤ 56
  loss : s.ctp.loss ≤ 255
  pulses : s.ctp.pulses ≤ 64

/-- The pools' bounds: the open microphones never exceed P (R82), nor the request entries 96 (R80). -/
structure PoolsBounded (s : State) : Prop where
  microphones : s.openCount ≤ s.pool
  requests : s.flc.queue.length ≤ 96

/-- The sizes of a settings image (Table 10-2). -/
structure Settings.Sized (x : Settings) : Prop where
  walls : x.walls.length = 5
  segments : x.segments.length = 6
  seats : x.seats.length = 256
  channels : x.channels.length = 24
  booths : x.booths.length = 16
  monitors : x.monitors.length = 2
  lines : x.lines.length = 4

/-- The sizes of the part's tables: five walls, six segments, four lines, 256 seats, 24 channels, 16 booths, two monitors
(R2, R4, R41, R59, R127, R131, R148, R158, R209). -/
structure TablesSized (s : State) : Prop where
  walls : s.ptu.walls.length = 5
  segments : s.ptu.segments.length = 6
  lines : s.slc.lines.length = 4
  seats : s.slc.seats.length = 256
  channels : s.lgr.channels.length = 24
  booths : s.lgr.booths.length = 16
  monitors : s.lgr.monitors.length = 2
  clips : s.mxe.channels.length = 24
  image : s.sts.image.contents.Sized
  saving : ∀ x, s.sts.saving = some x → x.Sized

/-! ### Laws of the records -/

/-- The laws of the floor records: every entry and request is a present seat of the right kind, placed and on an ACTIVE line,
and a seat is in at most one of them, once (R81); requests stand in the order of R80; holders are such chairs in seat order,
none twice (R78). -/
structure FloorLaws (s : State) : Prop where
  speakers : ∀ e ∈ s.flc.speakers, e.seat ≤ 255 ∧ (e.kind = .delegate ∨ e.kind = .chair) ∧
    (s.seat e.seat).kind = some e.kind ∧ s.seatActive e.seat = true ∧ (s.placement e.seat).isSome
  requests : ∀ q ∈ s.flc.queue, q.seat ≤ 255 ∧ (s.seat q.seat).kind = some .delegate ∧ s.seatActive q.seat = true ∧
    (s.placement q.seat).isSome
  once : (s.flc.speakers.map (·.seat) ++ s.flc.queue.map (·.seat)).Nodup
  ordered : s.flc.queue.Pairwise fun x y => y.before x = false
  holders : ∀ n ∈ s.flc.holders, n ≤ 255 ∧ (s.seat n).kind = some .chair ∧ s.seatActive n = true ∧
    (s.placement n).isSome
  holdersOrdered : s.flc.holders.Pairwise (· < ·)

/-- The laws of limits and priority: no room has more open delegates than its limit in force (R83); an entry is muted exactly
while it is a delegate's in a room with holders, and with CLOSE_ALL in force such a room has no delegate entry (R93); and the
pool holds no free slot while a room is eligible for advance (R96). -/
structure LimitLaws (s : State) : Prop where
  limits : ∀ lead ∈ s.leads, s.delegateCount lead ≤ (s.settings lead).limit
  muted : ∀ e ∈ s.flc.speakers,
    e.muted = (e.kind == .delegate && !(s.holdersIn (s.seatRoomCode e.seat)).isEmpty)
  closed : ∀ e ∈ s.flc.speakers, e.kind = .delegate → s.holdersIn (s.seatRoomCode e.seat) ≠ [] →
    (s.settings (s.seatRoomCode e.seat)).priorityAction = .muteOnly
  advanced : s.pool ≤ s.openCount ∨ ∀ q ∈ s.flc.queue, s.eligible (s.seatRoomCode q.seat) = false

/-- A template's numbers lie in the ranges of Table 1-1 (R3). -/
structure Template.Clamped (t : Template) : Prop where
  limit : 1 ≤ t.limit ∧ t.limit ≤ 48
  speech : t.speechLimit = 0 ∨ (10 ≤ t.speechLimit ∧ t.speechLimit ≤ 3600)
  lead : t.warningLead ≤ 120

/-- A route names a segment 1..6 or a channel 1..24 (R148). -/
def Route.Names : Route → Prop
  | .none => True
  | .floor g => 1 ≤ g ∧ g ≤ 6
  | .channel c => 1 ≤ c ∧ c ≤ 24

/-- Every setting of Table 10-2 lies in its range (R3, R4, R13, R24, R59, R127, R131, R148, R194, R195, R202). -/
structure Settings.InRange (x : Settings) : Prop where
  walls : ∀ w ∈ x.walls, 1 ≤ w.settleTime ∧ w.settleTime ≤ 30
  segments : ∀ g ∈ x.segments, g.template.Clamped
  fadeTime : 50 ≤ x.fadeTime ∧ x.fadeTime ≤ 1000
  placements : ∀ y ∈ x.seats, ∀ g, y.placement = some g → 1 ≤ g ∧ g ≤ 6
  desks : ∀ y ∈ x.seats, ∀ b, y.booth = some b → 1 ≤ b ∧ b ≤ 16
  channels : ∀ c ∈ x.channels,
    1 ≤ c.home ∧ c.home ≤ 6 ∧ isLetter c.tag.c1 = true ∧ isLetter c.tag.c2 = true ∧ isLetter c.tag.c3 = true
  booths : ∀ b ∈ x.booths, 1 ≤ b.home ∧ b.home ≤ 6 ∧ b.a ≤ 24 ∧ b.b ≤ 24
  monitors : ∀ r ∈ x.monitors, r.Names
  mask : x.mask.getLsbD 0 = true
  width : x.attn.width ≤ 7
  period : x.period ≠ 1 ∧ x.period ≤ 255

/-- Every setting the part holds, live, in the image or in a snapshot, lies in its range. -/
structure SettingsValid (s : State) : Prop where
  live : s.snapshot.InRange
  image : s.sts.image.contents.InRange
  saving : ∀ x, s.sts.saving = some x → x.InRange

/-- Channel and booth tables that agree (R133, R135): an enabled booth has an A channel and another B channel, enabled and
of no other enabled booth. -/
structure Settings.Consistent (x : Settings) : Prop where
  enabled : ∀ b ∈ x.booths, b.enabled = true → ∀ c ∈ [b.a, b.b], c ≠ 0 →
    (x.channels.getD (c - 1) factoryChannel).enabled = true
  distinct : ∀ b ∈ x.booths, b.enabled = true → b.a ≠ 0 ∧ b.a ≠ b.b
  single : ∀ (i j : Nat) (b d : Booth), x.booths[i]? = some b → x.booths[j]? = some d → i ≠ j →
    b.enabled = true → d.enabled = true → ∀ c ∈ [b.a, b.b], c ≠ 0 → c ∉ [d.a, d.b]

/-- The laws of booths and desks (R135, R139, R140): the tables agree; a live desk is a DESK unit on an ACTIVE line in a booth
in service that is not parked, alone in its booth; a desk of a booth in service selects B only while B is open. -/
structure DeskLaws (s : State) : Prop where
  tables : s.snapshot.Consistent
  image : s.sts.image.contents.Consistent
  saving : ∀ x, s.sts.saving = some x → x.Consistent
  onAir : ∀ n b, (s.seat n).set.booth = some b → (s.seat n).desk.live = true →
    (s.seat n).kind = some .desk ∧ s.seatActive n = true ∧ s.inService b = true ∧ s.parked b = false
  alone : ∀ n m b, (s.seat n).set.booth = some b → (s.seat m).set.booth = some b →
    (s.seat n).desk.live = true → (s.seat m).desk.live = true → n = m
  onB : ∀ n b, (s.seat n).set.booth = some b → s.inService b = true → (s.seat n).desk.output = .b →
    s.boothB b ≠ 0 ∧ (s.role (s.boothB b)).isShadow = false

/-- The relay graph has no cycle, and no relay depth exceeds 3 (R143). -/
structure RelayLaws (s : State) : Prop where
  acyclic : s.relayCycle = false
  shallow : s.relayTooDeep = false

/-- Every seat's listen channel is 0, or an enabled, active channel of the room of the seat's placement (R145, R146, R150). -/
def ListenLaws (s : State) : Prop :=
  ∀ n, let c := (s.seat n).listen
    c = 0 ∨ ((s.channel c).enabled = true ∧ 1 ≤ c ∧ c ≤ s.activeChannels ∧ s.seatRoom n = some (s.channelRoom c))

/-- The laws of privacy: a wall whose current join or effective target is JOINED has one privacy on both sides, so that all
segments of a room share one (R9, R11), and no monitor route has a PRIVATE source (R149). -/
structure PrivacyLaws (s : State) : Prop where
  targets : ∀ k, (s.wall k).target = .joined → s.privacy k = s.privacy (k + 1)
  currents : ∀ k, (s.wall k).current = .joined → s.privacy k = s.privacy (k + 1)
  monitors : ∀ r ∈ s.lgr.monitors, s.routePrivate r = false

/-- The laws of the map and the fades (R11, R12, R23, R26, R28, R31, R37): each block holds a record for each room of the
map; the sequencer's target vector is that of the walls and its affected set follows from it; the affected rooms, and no
others, fall; a room stands between 0 and K, at K while STEADY; and nothing moves while the sequencer is IDLE. -/
structure FadeLaws (s : State) : Prop where
  rooms : s.ptu.rooms.map (fun r => (r.lead, r.last)) = mapOf s.joins
  mixes : s.mxe.rooms.map (fun r => (r.lead, r.last)) = mapOf s.joins
  targets : s.ptu.targets = s.wallTargets
  affected : s.ptu.affected = roomsNotIn (mapOf s.joins) (mapOf s.wallTargets)
  settled : s.ptu.seq ≠ .fadeOut → s.wallTargets = s.joins
  falling : ∀ r ∈ s.ptu.rooms, r.direction = .down ↔ r.lead ∈ s.ptu.affected
  within : ∀ r ∈ s.ptu.rooms, r.position ≤ s.ptu.k
  steady : ∀ r ∈ s.ptu.rooms, r.direction = .steady → r.position = s.ptu.k
  atRest : s.ptu.seq = .idle → ∀ r ∈ s.ptu.rooms, r.direction = .steady
  done : s.ptu.fadeDone = true → s.ptu.affected = [] ∧ ∀ r ∈ s.ptu.rooms, r.direction = .steady

/-- The laws of the hall's marks (log 4), each standing only where what it marks has come about: a settle's expiry on a timer
that counts (R6, R7), a remap's on affected rooms that all stand at position 0 (R33), and the end of the fades on a sequencer
that is not IDLE, with no room affected and none moving (R31, R37). -/
structure MarkLaws (s : State) : Prop where
  settles : ∀ w ∈ s.ptu.walls, w.expired = true → w.timer.isSome
  remap : s.ptu.remapDue = true → s.ptu.affected ≠ [] ∧ ∀ lead ∈ s.ptu.affected, (s.room lead).position = 0
  fades : s.ptu.fadeDone = true →
    s.ptu.seq ≠ .idle ∧ s.ptu.affected = [] ∧ ∀ r ∈ s.ptu.rooms, r.direction = .steady

/-! ### Notices of the language router -/

/-- CHANNEL_ROLE for each channel whose role or primary in `s` differs from that in `old`, in channel order (R129). -/
def State.roleChanges (s old : State) : List Notice :=
  (List.range' 1 24).filterMap fun c =>
    if old.role c = s.role c then none else some (.channelRole c (s.channelRoom c) (old.role c) (s.role c))

/-- RELAY_LOST for each desk entry that selects a channel which `lost` takes from it, in seat order (R134, R136, R150). -/
def State.relayLosses (s : State) (lost : Nat → Bool) : List Notice :=
  (List.range 256).filterMap fun n =>
    let c := (s.seat n).desk.input
    match (s.seat n).set.booth with
    | some b => if c ≠ 0 ∧ lost n = true then some (.relayLost n b c) else none
    | none => none

/-- One LISTEN_RESET for each room with seats whose listen channel `lost` takes from them, in order of leading segment, with
their number (R134, R150). -/
def State.listenResets (s : State) (lost : Nat → Bool) : List Notice :=
  s.leads.filterMap fun lead =>
    let count := (List.range 256).countP fun n => (s.seat n).listen != 0 && lost n && s.inRoom lead n
    if count = 0 then none else some (.listenReset lead count)

/-- BOOTH_UNPARKED for each booth that is parked in `old` and not in `s`, in booth order (R134, R136). -/
def State.unparkings (s old : State) : List Notice :=
  (List.range' 1 16).filterMap fun b =>
    if old.parked b = true ∧ s.parked b = false then some (.boothUnparked b (s.boothRoom b)) else none

/-- The notices of step 3 of the language remap for booth b (R147, R150): DESK_OFF and BOOTH_PARKED of a booth that has become
parked, or BOOTH_UNPARKED; then DESK_OFF of a desk live on a B channel that has become SHADOW. -/
def State.parkingNotices (s old : State) (b : Nat) : List Notice :=
  let booth := s.booth b
  let live := s.boothLive b
  let parks := s.parked b = true ∧ old.parked b = false
  let off := fun (n : Nat) (cause : DeskOffCause) => Notice.deskOff n b (match (s.seat n).desk.output with
    | .a => booth.a
    | .b => s.boothB b) cause
  (if parks then (live.toList.map fun n => off n .parked) ++
      [.boothParked b (s.boothRoom b) booth.a (rolePrimary (s.role booth.a))]
    else if old.parked b = true ∧ s.parked b = false then [.boothUnparked b (s.boothRoom b)] else []) ++
  (if (s.role booth.b).isShadow = true ∧ (old.role booth.b).isShadow = false ∧ ¬parks then
    (live.toList.filter fun n => (s.seat n).desk.output == .b).map fun n => off n .shadow
  else [])

/-! ### Leaving ACTIVE -/

/-- The streams of line l's seats have ended between two frames of audio, and nothing else of the audio differs (R47). -/
structure StreamsEnded (l : Nat) (a b : Audio) : Prop where
  channels : b.channels = a.channels
  pa : b.pa = a.pa
  monitors : b.monitors = a.monitors
  headphones : ∀ n, b.headphones[n]? = if n / 64 = l then a.headphones[n]?.map fun _ => none else a.headphones[n]?
  loudspeakers : ∀ n, b.loudspeakers[n]? = if n / 64 = l then a.loudspeakers[n]?.map fun _ => none else a.loudspeakers[n]?
  deskHeadphones : ∀ n,
    b.deskHeadphones[n]? = if n / 64 = l then a.deskHeadphones[n]?.map fun _ => none else a.deskHeadphones[n]?

/-- The rooms whose whole holder set is on line l, by leading segment (R108). -/
def State.emptiedBy (s : State) (l : Nat) : List Nat :=
  s.leads.filter fun lead => !(s.holdersIn lead).isEmpty && (s.holdersIn lead).all fun n => n / 64 == l

/-- The notices of the floor controller for a line that leaves ACTIVE (R108): for each seat of the line in order MIC_CLOSED and
REQUEST_REMOVED, then PRIORITY_OFF of each room that loses its last holder, which names the last in seat order (log 15). -/
def State.floorLeaveNotices (s : State) (l : Nat) (close : CloseCause) (removal : RemovalCause) : List Notice :=
  ((seatsOfLine l).flatMap fun n =>
    (match s.speaker n with
      | some e => [Notice.micClosed n (s.seatRoomCode n) e.kind close e.seconds]
      | none => []) ++
    (match s.request n with
      | some _ => [Notice.requestRemoved n (s.seatRoomCode n) removal]
      | none => [])) ++
  (s.emptiedBy l).map fun lead => .priorityOff lead ((s.holdersIn lead).getLast?.getD 0)

/-- The notices of the language router for a line that leaves ACTIVE (R141): DESK_OFF of each live desk in seat order. -/
def State.deskLeaveNotices (s : State) (l : Nat) (off : DeskOffCause) : List Notice :=
  (seatsOfLine l).filterMap fun n =>
    match (s.seat n).set.booth with
    | some b => if (s.seat n).desk.live then
        some (.deskOff n b (match (s.seat n).desk.output with
          | .a => (s.booth b).a
          | .b => s.boothB b) off)
      else none
    | none => none

/-- State t is state u after line l has left ACTIVE with the causes given, LINE_STATE having gone to the port as `told`; f is
the state after the floor controller's closures and before its advance rule (R47, R108, R141). `absent` is whether the line's
seats become ABSENT; the line's own record is said beside this. Its streams end at once (log 34), and a room that loses its last
holders is unmuted (R93). -/
structure LineLeft (u : State) (l : Nat) (close : CloseCause) (removal : RemovalCause) (off : DeskOffCause) (absent : Bool)
    (told : Ctp) (f t : State) : Prop where
  kept : f = { u with slc := f.slc, flc := f.flc, ctp := f.ctp, mxe := f.mxe }
  speakers : f.flc = { u.flc with
    speakers := (u.flc.speakers.filter fun e => e.seat / 64 != l).map fun e =>
      if (u.emptiedBy l).any fun lead => u.inRoom lead e.seat then { e with muted := false } else e
    queue := u.flc.queue.filter fun q => q.seat / 64 != l
    holders := u.flc.holders.filter fun n => n / 64 != l }
  totals : ∀ n, n ≤ 255 → f.seat n = if n / 64 = l then { u.seat n with
      flash := none
      talkTotal := match u.speaker n with
        | some e => min 16777215 ((u.seat n).talkTotal + e.seconds)
        | none => (u.seat n).talkTotal }
    else u.seat n
  told : f.ctp = (u.floorLeaveNotices l close removal).foldl Ctp.notify told
  computed : StreamsEnded l u.mxe.computed f.mxe.computed
  leaving : StreamsEnded l u.mxe.leaving f.mxe.leaving
  mix : f.mxe = { u.mxe with computed := f.mxe.computed, leaving := f.mxe.leaving }
  rest : t = { f.advance with slc := t.slc, ctp := t.ctp }
  desksTold : t.ctp = (u.deskLeaveNotices l off).foldl Ctp.notify f.advance.ctp
  seats : ∀ n, n ≤ 255 →
    let x := f.advance.seat n
    let y : Seat := { x with desk := if x.set.booth.isSome then { x.desk with live := false } else x.desk }
    t.seat n = if n / 64 = l then (if absent then { y with unit := none, miss := 0, flash := none, sent := none } else y) else x

/-! ### What derived fields say -/

/-- What the indicator memory holds for seat n (R67 to R72): the ring by kind, MUTED before WARN; the request lamp, the flash
first; the lamps of a desk in a booth, all off for any other seat; the echoes and the text. -/
structure LampsShow (s : State) (n : Nat) : Prop where
  delegateRing : (s.seat n).kind = some .delegate → (s.speaker n = none → (s.lamps n).ring = .off) ∧
    ∀ e, s.speaker n = some e → (s.lamps n).ring = if e.muted then .muted else if e.warned then .warn else .on
  chairRing : (s.seat n).kind = some .chair → (s.lamps n).ring = if (s.speaker n).isSome then .on else .off
  deskRing : (s.seat n).kind = some .desk →
    (s.lamps n).ring = if (s.seat n).set.booth.isSome ∧ (s.seat n).desk.live = true then .on else .off
  unknownRing : (s.seat n).kind = some .unknown → (s.lamps n).ring = .off
  request : (s.lamps n).request =
    if (s.seat n).flash.isSome then .denied else if (s.request n).isSome then .on else .off
  deskLamps : (s.seat n).kind = some .desk → ∀ b, (s.seat n).set.booth = some b →
    ((s.lamps n).live = true ↔ (s.seat n).desk.live = true) ∧
    ((s.lamps n).busy = true ↔ ∃ m, m ≤ 255 ∧ m ≠ n ∧ (s.seat m).set.booth = some b ∧ (s.seat m).desk.live = true) ∧
    ((s.lamps n).parked = true ↔ s.parked b = true) ∧ ((s.lamps n).bActive = true ↔ (s.seat n).desk.output = .b) ∧
    (s.lamps n).inputEcho = (s.seat n).desk.input
  otherLamps : ((s.seat n).kind ≠ some .desk ∨ (s.seat n).set.booth = none) →
    (s.lamps n).live = false ∧ (s.lamps n).busy = false ∧ (s.lamps n).parked = false ∧ (s.lamps n).bActive = false ∧
    (s.lamps n).inputEcho = 0
  listenEcho : (s.lamps n).listenEcho = (s.seat n).listen
  text : (s.lamps n).text = (s.seat n).text

/-- The roles of the channels (R128, R129): a channel that is not enabled or lies above Nc is DORMANT; the primary of the
channels of one room and tag is the one of the lowest home segment, and then of the lowest number; the others are its
shadows. -/
structure RolesFollow (s : State) : Prop where
  active : s.activeChannels = match s.sts.active with
    | .floor => 8
    | .balanced => 16
    | .language => 24
  inUse : ∀ c, s.inUse c = true ↔ (s.channel c).enabled = true ∧ 1 ≤ c ∧ c ≤ s.activeChannels
  room : ∀ c, s.channelRoom c = leadOf s.joins (s.channel c).home
  dormant : ∀ c, s.role c = .dormant ↔ s.inUse c = false
  primary : ∀ c, s.role c = .primary ↔ s.inUse c = true ∧ ∀ d, s.inUse d = true → s.channelRoom d = s.channelRoom c →
    (s.channel d).tag = (s.channel c).tag → d ≠ c →
    (s.channel c).home < (s.channel d).home ∨ ((s.channel c).home = (s.channel d).home ∧ c < d)
  shadow : ∀ c p, s.role c = .shadow p ↔ s.inUse c = true ∧ c ≠ p ∧ s.role p = .primary ∧
    s.channelRoom p = s.channelRoom c ∧ (s.channel p).tag = (s.channel c).tag
  one : ∀ c, s.inUse c = true → ∃ p, (s.role p = .primary ∧ s.channelRoom p = s.channelRoom c ∧
      (s.channel p).tag = (s.channel c).tag) ∧
    ∀ q, s.role q = .primary → s.channelRoom q = s.channelRoom c → (s.channel q).tag = (s.channel c).tag → q = p

/-- What is derived of booths and of the channels they feed (R127, R130, R131, R138, R147); for the run a B channel above Nc
is none. -/
structure BoothsFollow (s : State) : Prop where
  inService : ∀ b, s.inService b = true ↔ (s.booth b).enabled = true ∧ 1 ≤ (s.booth b).a ∧ (s.booth b).a ≤ s.activeChannels
  boothB : ∀ b, s.boothB b = if (s.booth b).b ≤ s.activeChannels then (s.booth b).b else 0
  parked : ∀ b, s.parked b = true ↔ s.inService b = true ∧ ∃ p, s.role (s.booth b).a = .shadow p
  source : DeskLaws s → ∀ b c, 1 ≤ b → b ≤ 16 → c ≠ 0 →
    (s.sourceBooth c = some b ↔ s.inService b = true ∧ ((s.booth b).a = c ∨ s.boothB b = c))
  liveDesk : DeskLaws s → ∀ c n, s.liveDesk c = some n ↔ ∃ b, s.sourceBooth c = some b ∧ n ≤ 255 ∧
    (s.seat n).set.booth = some b ∧ (s.seat n).desk.live = true ∧
    c = match (s.seat n).desk.output with
      | .a => (s.booth b).a
      | .b => s.boothB b
  primaryLive : DeskLaws s → ∀ c n, s.liveDesk c = some n → s.role c = .primary
  outputMode : ∀ c, (s.role c = .primary → s.outputMode c = if (s.liveDesk c).isSome then .interpreted else .autoFloor) ∧
    (∀ p, s.role c = .shadow p → s.outputMode c = .mirror) ∧ (s.role c = .dormant → s.outputMode c = .silent)

/-- A step of the relay graph from booth b to booth d (R143): a desk entry of b selects a channel that d feeds. -/
def State.relays (s : State) (b d : Nat) : Prop :=
  ∃ n, n ≤ 255 ∧ (s.seat n).set.booth = some b ∧ (s.seat n).desk.input ≠ 0 ∧ s.sourceBooth (s.seat n).desk.input = some d

/-- The relay graph (R143, R144): it has a cycle where steps lead from a booth back to it; without one, a channel's depth is 0
where it has no source booth, else 0 where every desk of that booth selects the floor, else one more than the deepest
selection; and it is too deep where some channel's depth exceeds 3, a SHADOW channel's too (log 49). -/
structure RelayFollows (s : State) : Prop where
  cycle : s.relayCycle = true ↔ ∃ (path : Nat → Nat) (k : Nat), 0 < k ∧ path k = path 0 ∧
    ∀ i, i < k → s.relays (path i) (path (i + 1))
  fromFloor : ∀ c, s.sourceBooth c = none → s.relayDepth c = 0
  fromDesks : s.relayCycle = false → ∀ c b, s.sourceBooth c = some b → s.relayDepth c =
    (((List.range 256).filter fun n => decide ((s.seat n).set.booth = some b ∧ (s.seat n).desk.input ≠ 0)).map fun n =>
      1 + s.relayDepth (s.seat n).desk.input).foldl max 0
  tooDeep : s.relayCycle = false → (s.relayTooDeep = true ↔ ∃ c, 1 ≤ c ∧ c ≤ 24 ∧ 3 < s.relayDepth c)

/-! ### Field codes, notice records and reports -/

/-- The number that bytes hold, most significant byte first (R182). -/
def bytesValue (bs : List Byte) : Nat := bs.foldl (fun v b => v * 256 + b.toNat) 0

/-- A code gives each value of a list its position, counting from 0 (R205). -/
def Codes {α : Type} (code : α → Byte) (values : List α) : Prop :=
  values.map code = (List.range values.length).map fun i => BitVec.ofNat 8 i

/-- The coding of fields (R205, Tables 9-2 and 9-3). A unit's kind takes its place in the list of presence and kind (log
23). -/
structure FieldCodes : Prop where
  one : ∀ n, (byte n).toNat = n % 256
  two : ∀ n, (bytes2 n).length = 2 ∧ bytesValue (bytes2 n) = n % 65536
  three : ∀ n, (bytes3 n).length = 3 ∧ bytesValue (bytes3 n) = n % 16777216
  serial : ∀ w, (serialBytes w).length = 4 ∧ bytesValue (serialBytes w) = w.toNat
  stamp : ∀ w, (stampBytes w).length = 5 ∧ bytesValue (stampBytes w) = w.toNat
  coefficient : ∀ w, (coeffBytes w).length = 2 ∧ bytesValue (coeffBytes w) = w.toNat
  optional : optByte none = 0#8 ∧ ∀ n, optByte (some n) = byte n
  flag : Codes flagByte [false, true]
  map : ∀ m : RoomMap, mapBytes m = byte m.length :: m.flatMap fun r => [byte r.1, byte r.2]
  rooms : ∀ rs : List Nat, roomListBytes rs = byte rs.length :: rs.map byte
  template : ∀ t : Template, t.Clamped → (templateBytes t).length = 14 ∧ templateOf (templateBytes t) = some t
  policy : Codes (codeIn policyValues) [.follow, .held]
  join : Codes (codeIn joinValues) [.split, .joined]
  sensor : Codes (codeIn sensorValues) [.opened, .closed, .fault]
  wireFault : Codes (codeIn wireFaultValues) [.short, .openCircuit]
  privacy : Codes (codeIn privacyValues) [.open_, .closed_]
  mode : Codes (codeIn floorModeValues) [.direct, .queued, .override]
  expiry : Codes (codeIn expiryActionValues) [.close, .notify]
  priority : Codes (codeIn priorityActionValues) [.muteOnly, .closeAll]
  direction : Codes (codeIn directionValues) [.steady, .up, .down]
  seq : Codes (codeIn seqStateValues) [.idle, .fadeOut, .fadeIn]
  occasion : Codes (codeIn occasionValues) [.new, .revised, .afterCancel, .duringFadeIn]
  lineState : Codes (codeIn lineStateValues) [.off, .waking, .census, .active, .standby, .fault]
  lineCause : Codes (codeIn lineCauseValues)
    [.start, .command, .press, .wakeEnd, .censusEnd, .overcurrent, .noResponse]
  wakeOrigin : Codes (codeIn wakeOriginValues) [.start, .resume]
  powerPolicy : Codes (codeIn powerPolicyValues) [.atStart, .onCommand]
  lineFault : Codes (codeIn lineFaultValues) [.overcurrent, .noResponse]
  presence : Codes (codeIn presenceValues) [none, some .delegate, some .chair, some .desk, some .unknown]
  kind : ∀ k, kindByte k = codeIn presenceValues (some k)
  openOrigin : Codes (codeIn openOriginValues) [.press, .override, .priority, .granted, .host]
  closeCause : Codes (codeIn closeCauseValues)
    [.seat, .host, .override, .priority, .limit, .regroupLimit, .speechTime, .standby, .lineFault, .census, .lineOff]
  removalCause : Codes (codeIn removalCauseValues)
    [.seatCancel, .host, .granted, .cleared, .priority, .mode, .standby, .lineFault, .census, .lineOff]
  requestClass : Codes (codeIn requestClassValues) [.returned, .normal]
  floorStatus : Codes (codeIn floorStatusValues) [.closed, .opened, .openMuted, .queuedReturned, .queuedNormal]
  role : roleCode .primary = 0#8 ∧ (∀ p, roleCode (.shadow p) = 1#8) ∧ roleCode .dormant = 2#8
  primary : rolePrimary .primary = 0 ∧ (∀ p, rolePrimary (.shadow p) = p) ∧ rolePrimary .dormant = 0
  outputMode : Codes (codeIn outputModeValues) [.interpreted, .autoFloor, .mirror, .silent]
  interlock : Codes (codeIn interlockValues) [.refuse, .takeover]
  output : Codes (codeIn outputSelectValues) [.a, .b]
  deskOff : Codes (codeIn deskOffCauseValues)
    [.seat, .takeover, .parked, .shadow, .standby, .census, .lineOff, .lineFault, .host]
  route : (routeKindByte .none = 0#8 ∧ routeNumber .none = 0) ∧
    (∀ g, routeKindByte (.floor g) = 1#8 ∧ routeNumber (.floor g) = g) ∧
    ∀ c, routeKindByte (.channel c) = 2#8 ∧ routeNumber (.channel c) = c
  clearReason : Codes (codeIn clearReasonValues) [.privacy, .channel, .host]
  profile : Codes (codeIn profileValues) [.floor, .balanced, .language]
  resetCause : Codes (codeIn resetCauseValues) [.cold, .pin, .command]
  storeStatus : Codes (codeIn storeStatusValues) [.valid, .invalid]
  storeResult : Codes (codeIn storeResultValues) [.ok, .writeFailed]
  attnMode : Codes (codeIn attnModeValues) [.level, .pulse]
  frameError : Codes (codeIn frameErrorReasonValues) [.length, .crc, .truncated]
  clip : Codes (codeIn clipSourceValues) [.room, .channel]
  polarity : Codes (codeIn polarityValues) [.positive, .negative]
  result : Codes ResultCode.byte [.ok, .pending, .busy, .badLength, .unknownKind, .outOfRange, .notFound, .wrongState,
      .poolFull, .limitReached, .queueFull, .priorityHeld, .relayLoop, .relayDepth, .privacy, .lineDown, .channelTaken,
      .homeMismatch, .boothFull] ∧
    ResultCode.shadow.byte = 0x14#8 ∧ ResultCode.notPlaced.byte = 0x15#8

/-- The notice records (Tables 9-5 and 9-6): code, class, and the fields in order. The holder count of PRIORITY_ON is one
byte (log 52), so that a count of 256 has none (log 18); a record above the 512 bytes of R182 is sent whole (log 41); the kind
of a unit is coded as in the list of presence and kind (log 23). -/
structure NoticeRecords : Prop where
  frame : ∀ n : Notice, n.frame = { kind := 0x7F#8, tag := 0x00#8, payload := n.record }
  start : ∀ c a p x, (Notice.start c a p x).record = [0x00#8, 0#8, codeIn resetCauseValues c, codeIn profileValues a,
    codeIn profileValues p, codeIn storeStatusValues x]
  frameError : ∀ r n m k t, (Notice.frameError r n m k t).record =
    [0x01#8, 0#8, codeIn frameErrorReasonValues r] ++ bytes2 n ++ bytes2 m ++ [k, t]
  commandDropped : ∀ k t, (Notice.commandDropped k t).record = [0x02#8, 0#8, k, t]
  noticeLoss : ∀ n, (Notice.noticeLoss n).record = [0x03#8, 0#8, byte n]
  storeDone : ∀ r, (Notice.storeDone r).record = [0x04#8, 0#8, codeIn storeResultValues r]
  storeInvalid : Notice.storeInvalid.record = [0x05#8, 0#8]
  hostAbsent : ∀ p, (Notice.hostAbsent p).record = [0x06#8, 0#8, byte p]
  hostBack : ∀ n, (Notice.hostBack n).record = [0x07#8, 0#8] ++ bytes2 n
  wallSensor : ∀ w p q r, (Notice.wallSensor w p q r).record =
    [0x10#8, 1#8, byte w, codeIn sensorValues p, codeIn sensorValues q, r]
  wallFault : ∀ w k r, (Notice.wallFault w k r).record = [0x11#8, 1#8, byte w, codeIn wireFaultValues k, r]
  wallConflict : ∀ w f p q, (Notice.wallConflict w f p q).record =
    [0x12#8, 1#8, byte w, flagByte f, codeIn privacyValues p, codeIn privacyValues q]
  regroupBegun : ∀ o c t a k, (Notice.regroupBegun o c t a k).record =
    [0x13#8, 1#8, codeIn occasionValues o] ++ mapBytes c ++ mapBytes t ++ roomListBytes a ++ bytes2 k
  regroupDone : ∀ o n r k, (Notice.regroupDone o n r k).record =
    [0x14#8, 1#8] ++ mapBytes o ++ mapBytes n ++ roomListBytes r ++ bytes2 k
  regroupCancelled : ∀ c w r, (Notice.regroupCancelled c w r).record =
    [0x15#8, 1#8] ++ mapBytes c ++ mapBytes w ++ roomListBytes r
  lineState : ∀ l p q c, (Notice.lineState l p q c).record =
    [0x20#8, 2#8, byte l, codeIn lineStateValues p, codeIn lineStateValues q, codeIn lineCauseValues c]
  censusDone : ∀ l n, (Notice.censusDone l n).record = [0x21#8, 2#8, byte l, byte n]
  seatFound : ∀ n w k, (Notice.seatFound n w k).record = [0x22#8, 2#8] ++ bytes2 n ++ serialBytes w ++ [kindByte k]
  seatLost : ∀ n w, (Notice.seatLost n w).record = [0x23#8, 2#8] ++ bytes2 n ++ serialBytes w
  seatChanged : ∀ n v j w k, (Notice.seatChanged n v j w k).record =
    [0x24#8, 2#8] ++ bytes2 n ++ serialBytes v ++ [kindByte j] ++ serialBytes w ++ [kindByte k]
  lineOverlength : ∀ l, (Notice.lineOverlength l).record = [0x25#8, 2#8, byte l]
  wakeCancelled : ∀ l, (Notice.wakeCancelled l).record = [0x26#8, 2#8, byte l]
  seatUnplaced : ∀ n, (Notice.seatUnplaced n).record = [0x27#8, 2#8] ++ bytes2 n
  micOpened : ∀ n r k o, (Notice.micOpened n r k o).record =
    [0x30#8, 3#8] ++ bytes2 n ++ [byte r, kindByte k, codeIn openOriginValues o]
  micClosed : ∀ n r k c x, (Notice.micClosed n r k c x).record =
    [0x31#8, 3#8] ++ bytes2 n ++ [byte r, kindByte k, codeIn closeCauseValues c] ++ bytes2 x
  micRefused : ∀ n r c, (Notice.micRefused n r c).record = [0x32#8, 3#8] ++ bytes2 n ++ [byte r, c.byte]
  priorityOn : ∀ r hs, hs.length < 256 →
    (Notice.priorityOn r hs).record = [0x33#8, 3#8, byte r, byte hs.length] ++ hs.flatMap bytes2
  priorityOff : ∀ r n, (Notice.priorityOff r n).record = [0x34#8, 3#8, byte r] ++ bytes2 n
  requestAdded : ∀ n r c p, (Notice.requestAdded n r c p).record =
    [0x40#8, 4#8] ++ bytes2 n ++ [byte r, codeIn requestClassValues c, byte p]
  requestRemoved : ∀ n r c, (Notice.requestRemoved n r c).record =
    [0x41#8, 4#8] ++ bytes2 n ++ [byte r, codeIn removalCauseValues c]
  requestDropped : ∀ n r c, (Notice.requestDropped n r c).record =
    [0x42#8, 4#8] ++ bytes2 n ++ [byte r, codeIn closeCauseValues c]
  speechWarning : ∀ n r x a, (Notice.speechWarning n r x a).record =
    [0x50#8, 5#8] ++ bytes2 n ++ [byte r] ++ bytes2 x ++ bytes2 a
  speechExpired : ∀ n r x a e, (Notice.speechExpired n r x a e).record =
    [0x51#8, 5#8] ++ bytes2 n ++ [byte r] ++ bytes2 x ++ bytes2 a ++ [codeIn expiryActionValues e]
  deskLive : ∀ n b c r, (Notice.deskLive n b c r).record = [0x60#8, 6#8] ++ bytes2 n ++ [byte b, byte c, byte r]
  deskOff : ∀ n b c x, (Notice.deskOff n b c x).record =
    [0x61#8, 6#8] ++ bytes2 n ++ [byte b, byte c, codeIn deskOffCauseValues x]
  channelRole : ∀ c r o n, (Notice.channelRole c r o n).record =
    [0x62#8, 6#8, byte c, byte r, roleCode o, roleCode n, byte (rolePrimary n)]
  boothParked : ∀ b r a p, (Notice.boothParked b r a p).record = [0x63#8, 6#8, byte b, byte r, byte a, byte p]
  boothUnparked : ∀ b r, (Notice.boothUnparked b r).record = [0x64#8, 6#8, byte b, byte r]
  relayLost : ∀ n b c, (Notice.relayLost n b c).record = [0x65#8, 6#8] ++ bytes2 n ++ [byte b, byte c]
  listenReset : ∀ r n, (Notice.listenReset r n).record = [0x66#8, 6#8, byte r] ++ bytes2 n
  monitorCleared : ∀ m r x, (Notice.monitorCleared m r x).record =
    [0x67#8, 6#8, byte m, routeKindByte r, byte (routeNumber r), codeIn clearReasonValues x]
  clip : ∀ x n p, (Notice.clip x n p).record = [0x70#8, 7#8, codeIn clipSourceValues x, byte n, codeIn polarityValues p]

/-- The bytes of the seven reports (Tables 9-7 to 9-10). Seconds and milliseconds left are rounded either way (log 17) from
times counted in audio frames (log 7); the pulses reported are those before this reply (log 28); LINE_GET gives a census
position of 64 at most (log 30); the kind of a unit is coded as in the list of presence and kind (log 23); a B channel is the
stored one (log 48); a count or position whose size no table gives is one byte (log 52), so that a count of 256 holders has
none (log 18). -/
structure ReportsTell (s : State) : Prop where
  status : s.statusReport = [codeIn resetCauseValues s.sts.cause, codeIn profileValues s.sts.active,
    codeIn profileValues s.sts.pending, codeIn storeStatusValues s.sts.status, flagByte s.sts.saving.isSome, s.ctp.mask,
    flagByte s.ctp.attn.enable, codeIn attnModeValues s.ctp.attn.mode, byte s.ctp.attn.width, byte s.ctp.period,
    byte s.ctp.secondsLeft, flagByte s.ctp.autonomous, byte (s.ctp.replies.length + 1), byte s.ctp.notices.length,
    byte s.ctp.loss, byte s.ctp.pulses, codeIn seqStateValues s.ptu.seq,
    codeIn lineStateValues (s.line 0).phase.state, codeIn lineStateValues (s.line 1).phase.state,
    codeIn lineStateValues (s.line 2).phase.state, codeIn lineStateValues (s.line 3).phase.state]
  stopped : (s.ctp.period = 0 ∨ s.ctp.autonomous = true) → s.ctp.secondsLeft = 0
  secondsLeft : s.ctp.period ≠ 0 → s.ctp.autonomous = false →
    s.ctp.secondsLeft = (s.ctp.period * 48000 - s.ctp.absenceFrames) / 48000 ∨
    s.ctp.secondsLeft = (s.ctp.period * 48000 - s.ctp.absenceFrames + 47999) / 48000
  hall : TablesSized s → FadeLaws s → s.hallReport =
    ([1, 2, 3, 4, 5].flatMap fun k =>
      let w := s.wall k
      [codeIn policyValues w.set.policy, codeIn joinValues w.set.held, byte w.set.settleTime, w.lastReading,
        codeIn sensorValues w.settled, (match w.faultKind with
          | some f => codeIn wireFaultValues f
          | none => 0xFF#8),
        codeIn sensorValues (match w.timer with
          | some m => m.candidate
          | none => w.settled)] ++
      (match w.timer with
        | some m => bytes2 m.count
        | none => [0xFF#8, 0xFF#8]) ++
      [codeIn joinValues w.requested, codeIn joinValues w.target, codeIn joinValues w.current, flagByte w.conflict]) ++
    ([1, 2, 3, 4, 5, 6].flatMap fun g =>
      [codeIn privacyValues (s.segment g).privacy] ++ templateBytes (s.segment g).template ++ [byte (leadOf s.joins g)]) ++
    byte (mapOf s.joins).length :: ((mapOf s.joins).flatMap fun r =>
      [byte r.1, byte r.2, codeIn privacyValues (s.segment r.1).privacy, flagByte (decide ((s.room r.1).direction ≠ .steady))] ++
      bytes2 (s.room r.1).position ++ [codeIn directionValues (s.room r.1).direction]) ++
    [codeIn seqStateValues s.ptu.seq] ++ bytes2 s.ptu.fadeTime ++ bytes2 s.ptu.k
  line : ∀ l, ∃ ms, (match (s.line l).phase with
      | .waking _ r => ms = r / 48 ∨ ms = (r + 47) / 48
      | _ => ms = 0) ∧
    let x := s.line l
    s.lineReport l = [byte l, codeIn lineStateValues x.phase.state, (match x.phase with
        | .waking o _ => codeIn wakeOriginValues o
        | _ => 0xFF#8)] ++ bytes2 ms ++
      [(match x.phase with
          | .census c => byte (min 64 (c.found.length + 1))
          | _ => 0#8), byte x.unitCount,
        codeIn powerPolicyValues x.set.powerPolicy, flagByte x.set.wakeOnPress, flagByte x.set.autoRelight,
        flagByte x.indicators, flagByte x.presenceChanged, flagByte x.overlength, (match x.phase with
          | .fault f _ => codeIn lineFaultValues f
          | _ => 0xFF#8), (match x.phase with
          | .fault _ (some p) => byte p
          | _ => 0#8)] ++
      (List.range 64).map fun i => codeIn presenceValues (s.seat (64 * l + i)).kind
  seat : ∀ n, let x := s.seat n
    s.seatReport n = bytes2 n ++ [byte (n / 64), byte (n % 64 + 1), codeIn lineStateValues (s.line (n / 64)).phase.state,
        codeIn presenceValues x.kind] ++ (match x.unit with
          | some w => serialBytes w.serial
          | none => [0#8, 0#8, 0#8, 0#8]) ++
      (match x.set.placement with
        | some g => [byte g, byte (leadOf s.joins g)]
        | none => [0#8, 0#8]) ++
      coeffBytes x.set.trim ++ [optByte x.set.booth, byte x.listen] ++ bytes3 x.talkTotal ++
      [codeIn floorStatusValues (s.floorStatus n), if x.kind = some .desk ∧ x.set.booth.isSome then flagByte x.desk.live
        else 0xFF#8] ++ (match x.text with
          | some t => byte t.length :: t
          | none => [0#8])
  floorStatus : ∀ n, (∀ e, s.speaker n = some e → s.floorStatus n = if e.muted then .openMuted else .opened) ∧
    (s.speaker n = none → (s.request n = none → s.floorStatus n = .closed) ∧
      ∀ q, s.request n = some q → s.floorStatus n = if q.cls = .returned then .queuedReturned else .queuedNormal)
  room : ∀ lead,
    let holders := s.flc.holders.filter fun n => s.seatRoom n == some lead
    let open_ := s.flc.speakers.filter fun e => s.seatRoom e.seat == some lead
    let queued := s.flc.queue.filter fun q => s.seatRoom q.seat == some lead
    holders.length < 256 → s.floorReport lead = [byte lead, byte (lastOf s.joins lead)] ++ templateBytes (s.settings lead) ++
      [byte (open_.countP fun e => e.kind == .delegate), byte (open_.countP fun e => e.kind == .chair),
        flagByte (s.eligible lead), byte s.pool, byte s.flc.speakers.length, byte (96 - s.flc.queue.length),
        flagByte s.ctp.autonomous] ++
      (byte holders.length :: holders.flatMap bytes2) ++
      (byte open_.length :: open_.flatMap fun e => bytes2 e.seat ++ [kindByte e.kind] ++ stampBytes e.stamp ++
        bytes2 e.seconds ++ bytes2 e.extension ++ [flagByte e.muted, flagByte e.warned, flagByte e.byPriority]) ++
      byte queued.length :: queued.flatMap fun q =>
        bytes2 q.seat ++ [codeIn requestClassValues q.cls] ++ stampBytes q.stamp
  pool : s.pool = match s.sts.active with
    | .floor => 48
    | .balanced => 32
    | .language => 16
  language : s.languageReport = [byte s.activeChannels] ++
    ((List.range' 1 24).flatMap fun c =>
      let x := s.channel c
      [flagByte x.enabled, x.tag.c1, x.tag.c2, x.tag.c3, byte x.home, byte (leadOf s.joins x.home),
        flagByte (decide (c ≤ s.activeChannels)), roleCode (s.role c), byte (rolePrimary (s.role c)),
        optByte (s.sourceBooth c)] ++
      (match s.liveDesk c with
        | some n => bytes2 n
        | none => [0xFF#8, 0xFF#8]) ++
      [codeIn outputModeValues (s.outputMode c), if s.role c = .primary then byte (s.relayDepth c) else 0xFF#8]) ++
    ((List.range' 1 16).flatMap fun b =>
      let x := s.booth b
      let desks := (List.range 256).filter fun n => (s.seat n).set.booth == some b
      [flagByte x.enabled, byte x.home, byte x.a, byte x.b, codeIn interlockValues x.interlock, flagByte (s.inService b),
        flagByte (s.parked b), byte desks.length] ++
      desks.flatMap fun n => bytes2 n ++
        [flagByte (s.seat n).desk.live, codeIn outputSelectValues (s.seat n).desk.output, byte (s.seat n).desk.input]) ++
    [routeKindByte (s.monitor 1), byte (routeNumber (s.monitor 1)), routeKindByte (s.monitor 2),
      byte (routeNumber (s.monitor 2))]
  clips : s.clipReport = byte (mapOf s.joins).length :: ((mapOf s.joins).flatMap fun r =>
      [byte r.1, byte r.2, flagByte (s.roomMix r.1).clip.latch] ++ bytes2 (s.roomMix r.1).clip.count) ++
    s.mxe.channels.flatMap fun c => [flagByte c.latch] ++ bytes2 c.count

/-! ### Entries as procedures make them -/

/-- The entry that opening a microphone appends (R84): warned at once where the warning point is 0 (R118). -/
def State.openedEntry (s : State) (n : Nat) (kind : Kind) (origin : OpenOrigin) : Speaker :=
  { newSpeaker n kind (nextStamp s.stamp) origin with
    warned := decide (kind = .delegate ∧ (s.settings (s.seatRoomCode n)).speechLimit ≠ 0 ∧
      (s.settings (s.seatRoomCode n)).speechLimit ≤ (s.settings (s.seatRoomCode n)).warningLead) }

/-- The seat of a press or a command is a unit of the kind given on an ACTIVE line (R60, R97). -/
structure SeatInService (s : State) (n : Nat) (kind : Kind) : Prop where
  seat : n ≤ 255
  active : s.seatActive n = true
  unit : (s.seat n).kind = some kind

/-- A step is safe where it answers a next state. -/
def State.stepsOn (s : State) : Prop := ∃ t, step s = .next t

end Sys2Proof.Machine
end

