-- ==== Sys2Proof/Certificates/Slice0/Obligations.lean ====
section
/-! DEFINITION. The statements for the provers. Each docstring names the rules of spec/ it rests on; a statement about a host
command has its hypotheses on the state and the payload alone, and concludes with the next state. -/

open Sys2Proof Sys2Proof.Machine

/-! ### The queue, the start and reset -/

/-- The part takes the command at the front of its queue and runs it on the rest; with nothing waiting it idles (log 2). -/
def Obligations.StepTakesFront : Prop :=
  ∀ (c : Instr) (rest : List Instr) (s : State),
    step { s with pending := c :: rest } = exec c { s with pending := rest } ∧
    step { s with pending := [] } = .next { s with pending := [] }

/-- The state after reset is what the cold start of a part whose image was never written leaves when its wall inputs read 0
(R213, R214; the image and the readings are the model's choice, log 1); with it what every start leaves: cleared queues and
counts (R204), stamp count 0 (R1), empty floor records (R114), absent seats and waking lines (R64), rooms STEADY at K (R20),
clear clip records (R158), no save (R214). The wake time of 1.5 s stands in audio frames (log 7). -/
def Obligations.ResetValues : Prop :=
  exec (.powerUp ⟨0, 0, 0, 0, 0⟩) { State.reset with powered := false, started := false } = .next State.reset ∧
  State.reset.stamp = 0#40 ∧
  State.reset.ctp.replies = [] ∧ State.reset.ctp.loss = 0 ∧ State.reset.ctp.pulses = 0 ∧
  State.reset.ctp.autonomous = false ∧ State.reset.ctp.absenceCount = 0 ∧ State.reset.ctp.transfer = none ∧
  State.reset.flc.speakers = [] ∧ State.reset.flc.queue = [] ∧ State.reset.flc.holders = [] ∧
  (∀ n, n < 256 → (State.reset.seat n).unit = none ∧ (State.reset.seat n).listen = 0 ∧ (State.reset.seat n).text = none ∧
    (State.reset.seat n).talkTotal = 0 ∧ (State.reset.seat n).miss = 0 ∧ (State.reset.seat n).flash = none ∧
    (State.reset.seat n).desk = { live := false, output := .a, input := 0 }) ∧
  (∀ l, l < 4 → (State.reset.line l).phase = .waking .start 72000 ∧ (State.reset.line l).unitCount = 0 ∧
    (State.reset.line l).indicators = true ∧ (State.reset.line l).presenceChanged = false ∧
    (State.reset.line l).overlength = false ∧ (State.reset.line l).refresh = none) ∧
  State.reset.ptu.seq = .idle ∧ State.reset.ptu.k = 9600 ∧
  (∀ r ∈ State.reset.ptu.rooms, r.position = 9600 ∧ r.direction = .steady) ∧
  (∀ r ∈ State.reset.mxe.rooms, r.clip = { latch := false, count := 0 }) ∧
  State.reset.mxe.channels = List.replicate 24 { latch := false, count := 0 } ∧
  State.reset.sts.saving = none ∧ State.reset.ctp.notices.getLast? = some (.start .cold .balanced .balanced .invalid)

/-- The reset state meets every invariant of this file: the bounds of queues and pools, the sizes and ranges of tables,
settings and audio, and the laws of the floor, of limits and priority, of desks and relay, of listen selections, of the fades,
of the hall's marks (log 4) and of privacy. -/
def Obligations.ResetMeetsTheInvariants : Prop :=
  QueuesBounded State.reset ∧ PoolsBounded State.reset ∧ TablesSized State.reset ∧ SettingsValid State.reset ∧
  AudioInRange State.reset ∧ FloorLaws State.reset ∧ LimitLaws State.reset ∧ DeskLaws State.reset ∧
  RelayLaws State.reset ∧ ListenLaws State.reset ∧ FadeLaws State.reset ∧ MarkLaws State.reset ∧ PrivacyLaws State.reset

/-- POWER_UP, RESET_RELEASE and a RESTART that is taken run the start sequence with their causes; RESET held low through
power-up leaves the part held, and its release then gives a cold start (R213, R204). -/
def Obligations.StartEventsRunTheSequence : Prop :=
  ∀ (s : State) (w : Readings) (tag : Byte),
    (s.powered = false → s.resetLow = false →
      exec (.powerUp w) s = .next (({ s with powered := true }).startSequence .cold w)) ∧
    (s.powered = false → s.resetLow = true → exec (.powerUp w) s = .next { s with powered := true, started := false }) ∧
    (s.powered = true → s.resetLow = true →
      exec (.resetRelease w) s =
        .next (({ s with resetLow := false }).startSequence (if s.started then .pin else .cold) w)) ∧
    (Accepts s 1 → exec (.restart tag [] w) s = .next (s.heard.startSequence .command w))

/-- What the start sequence sets up in every block from the settings it loads (R20, R64, R114, R154, R158, R204, R214,
R215): the image's while its CRC-32 matches, else the factory defaults. Each wall's requested join, conflict flag and effective
target follow from its first reading and the privacy beside it (R20, R8, R9), and each room has the coefficient set of its
settings in force and a clear clip record (R158). The notices of a start are STORE_INVALID while the image is invalid, then,
while the mask loaded enables class LINE, LINE_STATE from OFF to WAKING with cause START of each line under AT_START, and START
last, with no other among them (R214, R216, R64): six at most, and five where the image is valid. In PULSE mode each of them is
a pending pulse (R197). The lines start in the order of their numbers (log 47). The wake time stands in audio frames (log 7); a
pulse in progress and the outputs end at every start (logs 43, 44). The part has run from then on, so that a RESET held low later
and released gives a warm reset (R213); the pins stay, and no mark of the run before stands (log 4). -/
def Obligations.StartSequenceSetsUp : Prop :=
  ∀ (cause : ResetCause) (w : Readings) (s : State), s.loaded.Sized →
    let t := s.startSequence cause w
    let x := s.loaded
    (x = if s.sts.image.crc = crc32 s.sts.image.contents.bytes then s.sts.image.contents else factorySettings) ∧
    (t.stamp = 0#40 ∧ t.ctp.replies = [] ∧ t.ctp.loss = 0 ∧ t.ctp.autonomous = false ∧ t.ctp.absenceFrames = 0 ∧
      t.ctp.transfer = none ∧ t.ctp.pulse = .idle ∧ t.ctp.mask = x.mask ∧ t.ctp.attn = x.attn ∧ t.ctp.period = x.period ∧
      t.ctp.pulses = if x.attn.enable = true ∧ x.attn.mode = .pulse then t.ctp.notices.length else 0) ∧
    (t.flc = emptyFlc ∧ t.slc.seats = x.seats.map startSeat) ∧
    (∀ l, l < 4 → t.line l =
      { set := x.lines.getD l factoryLine
        phase := if (x.lines.getD l factoryLine).powerPolicy = .atStart then .waking .start 72000 else .off
        unitCount := 0, indicators := true, presenceChanged := false, overlength := false, refresh := none }) ∧
    (t.lgr.channels = x.channels ∧ t.lgr.booths = x.booths ∧
      t.lgr.monitors = x.monitors.map fun r => if t.routePrivate r then .none else r) ∧
    (t.ptu.seq = .idle ∧ t.ptu.fadeTime = x.fadeTime ∧ t.ptu.k = x.fadeTime * 48 ∧ t.ptu.segments = x.segments ∧
      t.joins = t.wallTargets ∧ t.ptu.targets = t.wallTargets ∧ t.ptu.affected = [] ∧ t.ptu.walls.length = 5 ∧
      t.ptu.remapDue = false ∧ t.ptu.fadeDone = false ∧
      t.ptu.rooms = (mapOf t.joins).map fun r =>
        { lead := r.1, last := r.2, position := x.fadeTime * 48, direction := .steady }) ∧
    (∀ k, 1 ≤ k → k ≤ 5 →
      let y := t.wall k
      y.set = x.walls.getD (k - 1) factoryWall ∧ y.lastReading = readingOf w k ∧
      y.settled = bandOf (readingOf w k) ∧ y.faultKind = faultKindOf (readingOf w k) ∧ y.timer = none ∧ y.expired = false ∧
      y.requested = (if y.set.policy = .held then y.set.held
        else if bandOf (readingOf w k) = .opened then .joined else .split) ∧
      y.conflict = (y.requested == .joined && t.privacy k != t.privacy (k + 1)) ∧
      y.target = (if y.conflict then .split else y.requested) ∧ y.current = y.target) ∧
    (t.mxe.channels = List.replicate 24 { latch := false, count := 0 } ∧
      t.mxe.rooms = ((mapOf t.joins).map fun r =>
        { lead := r.1, last := r.2, nom := (t.settings r.1).nom, gain := (t.settings r.1).gain
          autoFloorGain := (t.settings r.1).autoFloorGain, clip := { latch := false, count := 0 } }) ∧
      t.mxe.computed = silentAudio ∧ t.mxe.leaving = silentAudio ∧ t.mxe.begun = false) ∧
    (t.sts.image = s.sts.image ∧ t.sts.saving = none ∧ t.sts.cause = cause ∧ t.sts.pending = x.pendingProfile ∧
      t.sts.active = (if cause = .cold then x.pendingProfile else s.sts.active) ∧
      t.sts.status = (if s.sts.image.valid then .valid else .invalid)) ∧
    (t.started = true ∧ t.powered = s.powered ∧ t.resetLow = s.resetLow ∧ t.pending = s.pending) ∧
    (t.ctp.notices = (if t.sts.status = .invalid then [Notice.storeInvalid] else []) ++
        (if x.mask.getLsbD 2 = true then [0, 1, 2, 3].filterMap fun l =>
          if (x.lines.getD l factoryLine).powerPolicy = .atStart then some (.lineState l .off .waking .start) else none
        else []) ++
        [.start cause t.sts.active t.sts.pending t.sts.status] ∧
      t.ctp.notices.length ≤ 6 ∧ (t.sts.status = .valid → t.ctp.notices.length ≤ 5))

/-- POWER_LOSS and RESET_ASSERT hold the part: ATTN released, lines unpowered, outputs at 0, the transfer and the save ended,
and the image kept (R211, R213, R204). That this happens as the hold begins, and that the records of the hall, the lines, the
floor and the languages and the stamp count stand until the start that follows, is the model's reading (log 22). A held part
takes nothing but the power and reset events: every other command or event leaves it as it is (log 21). -/
def Obligations.HeldPartTakesNothing : Prop :=
  (∀ (c : Instr) (s t : State), s.running = false → isPowerEvent c = false → exec c s = .next t → t = s) ∧
  (∀ s : State,
      (∃ t, exec .powerLoss s = .next t ∧ t.running = false ∧ t.attn = false ∧ (∀ l, t.linePower l = .none) ∧
        t.mxe.leaving = silentAudio ∧ t.mxe.computed = silentAudio ∧ t.ctp.transfer = none ∧ t.sts.saving = none ∧
        t.sts.image = s.sts.image ∧ t.powered = false ∧ t.started = false ∧ t.resetLow = s.resetLow ∧
        t.ptu = s.ptu ∧ t.slc = s.slc ∧ t.flc = s.flc ∧ t.lgr = s.lgr ∧ t.stamp = s.stamp ∧ t.pending = s.pending) ∧
      (s.resetLow = false →
        ∃ t, exec .resetAssert s = .next t ∧ t.running = false ∧ t.attn = false ∧ (∀ l, t.linePower l = .none) ∧
          t.mxe.leaving = silentAudio ∧ t.mxe.computed = silentAudio ∧ t.ctp.transfer = none ∧ t.sts.saving = none ∧
          t.sts.image = s.sts.image ∧ t.powered = s.powered ∧ t.started = s.started ∧ t.resetLow = true ∧
          t.ptu = s.ptu ∧ t.slc = s.slc ∧ t.flc = s.flc ∧ t.lgr = s.lgr ∧ t.stamp = s.stamp ∧ t.pending = s.pending))

/-! ### Invariants and whole-machine rules -/

/-- Every step keeps the queues within their bounds (R191, R192, R197), the open microphones within the pool (R82) and the
requests within the 96 entries (R80). -/
def Obligations.EveryStepKeepsQueuesAndPools : Prop :=
  ∀ s t : State, step s = .next t →
    (QueuesBounded s → QueuesBounded t) ∧ (PoolsBounded s → PoolsBounded t)

/-- Every step keeps the sizes of the part's tables, every setting within its range, live, saved or being saved (R3, R13,
R24), and every output sample within 24 bits (R171). -/
def Obligations.EveryStepKeepsSizesAndRanges : Prop :=
  ∀ s t : State, step s = .next t →
    (TablesSized s → TablesSized t) ∧ (SettingsValid s → SettingsValid t) ∧ (AudioInRange s → AudioInRange t)

/-- Every step keeps the laws of the floor records: a seat is in at most one speaker list or request queue, and at most once
in it, as a placed unit of the right kind on an ACTIVE line; the queues and holder sets stay in order (R78, R80, R81). -/
def Obligations.EveryStepKeepsTheFloorLaws : Prop :=
  ∀ s t : State, FloorLaws s → step s = .next t → FloorLaws t

/-- Every step keeps every room within its delegate limit in force (R83), an entry muted exactly while priority mutes it (R93),
and no free slot while a room is eligible for advance (R96). -/
def Obligations.EveryStepKeepsLimitsAndPriority : Prop :=
  ∀ s t : State, TablesSized s → SettingsValid s → FloorLaws s → LimitLaws s → step s = .next t → LimitLaws t

/-- Every step keeps at most one live desk in a booth, none in a parked booth, each on a DESK unit of an ACTIVE line (R139),
the relay graph without cycle and no deeper than 3 (R143; behind a SHADOW channel too, log 49), and every seat's listen
selection 0 or an enabled, active channel of the seat's room (R145, R146, R150). -/
def Obligations.EveryStepKeepsDesksAndRelay : Prop :=
  ∀ s t : State, TablesSized s → SettingsValid s → DeskLaws s → step s = .next t →
    DeskLaws t ∧ (RelayLaws s → RelayLaws t) ∧ (ListenLaws s → ListenLaws t)

/-- Every step keeps the room records in step with the map, and the fades in step with the sequencer (R11, R12, R23, R28); and
every step keeps the marks true: a settle's expiry stands marked on a counting timer alone, a remap's only while the affected
rooms, one at least, all stand at position 0 (R33), and the end of the fades only while the sequencer is not IDLE and no room
moves (R31, R37). That an event stands as a mark until its row takes it is the model's (log 4). -/
def Obligations.EveryStepKeepsTheFades : Prop :=
  ∀ s t : State, TablesSized s → step s = .next t → (FadeLaws s → FadeLaws t) ∧ (MarkLaws s → MarkLaws t)

/-- No step joins a PUBLIC segment with a PRIVATE one or routes a PRIVATE source to a monitor: every step keeps all segments
of a room at one privacy and every monitor route off PRIVATE sources (R9, R11, R149). -/
def Obligations.EveryStepKeepsPrivacy : Prop :=
  ∀ s t : State, TablesSized s → SettingsValid s → PrivacyLaws s → step s = .next t → PrivacyLaws t

/-- Every command or event its source can send is carried out: no step on one stops, in any state (R187, R190: a refusal is a
reply). What stops a step is an event of a seat, line or wall that the part does not have, with its name (R4, R41, R58;
log 24), and nothing else. -/
def Obligations.OnlyEventsOfMissingUnitsStop : Prop :=
  (∀ (c : Instr) (s : State), c.wellFormed = true → ∃ t, exec c s = .next t) ∧
  (∀ (c : Instr) (s : State), (∃ t, exec c s = .next t) ∨ ∃ f, exec c s = .fault f) ∧
  (∀ (n v : Nat) (o : OutputSelect) (s : State), 255 < n →
    exec (.talk n) s = .fault .noSuchSeat ∧ exec (.priorityDown n) s = .fault .noSuchSeat ∧
    exec (.priorityUp n) s = .fault .noSuchSeat ∧ exec (.outputSelect n o) s = .fault .noSuchSeat ∧
    exec (.inputSelect n v) s = .fault .noSuchSeat ∧ exec (.listenSelect n v) s = .fault .noSuchSeat ∧
    exec (.speechSecond n) s = .fault .noSuchSeat ∧ exec (.flashEnd n) s = .fault .noSuchSeat) ∧
  (∀ (l v : Nat) (a : Option UnitAnswer) (s : State), 3 < l →
    exec (.overcurrent l) s = .fault .noSuchLine ∧ exec (.silentUnit l) s = .fault .noSuchLine ∧
    exec (.standbyCurrentMeasurement l v) s = .fault .noSuchLine ∧ exec (.wakeEnd l) s = .fault .noSuchLine ∧
    exec (.censusSlot l a) s = .fault .noSuchLine ∧ exec (.censusComplete l) s = .fault .noSuchLine) ∧
  (∀ (k : Nat) (s : State), (k = 0 ∨ 5 < k) → exec (.settleExpiry k) s = .fault .noSuchWall)

/-! ### Frames, replies and the control port -/

/-- The frame of every host command reads back as that command, whatever fill comes before it and whatever follows it in the
transfer (R182 to R185, Table 9-4; readInbound stands for the assembly, log 8). The bytes of a frame are those of Table 9-1,
and the check value is the CRC-16 of R183, taken bit by bit. -/
def Obligations.FramesReadBack : Prop :=
  (∀ f : Frame, f.bytes = [0xC6#8] ++ bytes2 f.payload.length ++ [f.kind, f.tag] ++ f.payload ++
    bytes2 (crc16 (bytes2 f.payload.length ++ [f.kind, f.tag] ++ f.payload)).toNat) ∧
  (crc16 [] = 0xFFFF#16 ∧ ∀ (bs : List Byte) (b : Byte), crc16 (bs ++ [b]) = (List.range 8).foldl (fun (r : BitVec 16) i =>
    if r.getMsbD 0 != b.getMsbD i then (r <<< 1) ^^^ 0x1021#16 else r <<< 1) (crc16 bs)) ∧
  ∀ (i : Instr) (f : Frame) (walls : Readings) (skipped rest : List Byte),
    i.wellFormed = true → frameOf i = some f → (∀ t p w, i = .restart t p w → w = walls) →
    (∀ b ∈ skipped, b ≠ syncByte) → readInbound walls (skipped ++ f.bytes ++ rest) = i

/-- A valid frame restarts the absence timer, marks the transfer's inbound frame as taken, and ends autonomy with HOST_BACK
before its command is handled; the advance rule follows HOST_BACK and, under the laws of the floor, grants nothing new;
nothing else changes, and queued replies stay (R199, R201, R184). The expiry of the host absence timer makes the part
autonomous, queues HOST_ABSENT first, and runs the advance rule (R200). The expiry is taken whenever it comes (log 6), and the
absence count is the period then at least (log 31); both stand in audio frames, 48 000 to the second (log 7). -/
def Obligations.HostAbsenceAndReturn : Prop :=
  (∀ s : State,
      s.heard.ctp.autonomous = false ∧ s.heard.ctp.absenceFrames = 0 ∧ s.heard.ctp.replies = s.ctp.replies ∧
      (s.ctp.autonomous = false → s.heard =
        { s with ctp := { s.ctp with
            transfer := s.ctp.transfer.map fun t => { t with inboundDone := true }
            absenceFrames := 0 } }) ∧
      (s.ctp.autonomous = true →
        let marked : Ctp := { s.ctp with
          transfer := s.ctp.transfer.map fun t => { t with inboundDone := true }
          autonomous := false }
        let told := marked.notify (.hostBack (if s.ctp.period = 0 then 0 else min 65535 (s.ctp.absenceFrames / 48000)))
        let u := State.advance { s with ctp := told }
        s.heard = { u with ctp := { u.ctp with absenceFrames := 0 } } ∧
        (LimitLaws s → s.heard = { s with ctp := { told with absenceFrames := 0 } })) ∧
      (s.ctp.autonomous = true → s.ctp.notices.length < 56 →
        ∃ l, s.heard.ctp.notices = s.ctp.notices ++ .hostBack s.ctp.absenceCount :: l)) ∧
  ∀ s : State, s.running = true → s.ctp.period ≠ 0 → s.ctp.autonomous = false →
      ∃ u : State, exec .hostAbsenceExpiry s = .next u.advance ∧
        u = { s with ctp := u.ctp } ∧ u.ctp.autonomous = true ∧ u.advance.ctp.autonomous = true ∧
        u.advance.ctp.timerRuns = false ∧ u.ctp.replies = s.ctp.replies ∧
        u.ctp = { s.ctp with autonomous := true, absenceFrames := max s.ctp.absenceFrames (s.ctp.period * 48000) }.notify
          (.hostAbsent s.ctp.period) ∧
        (s.ctp.notices.length < 56 → u.ctp.notices = s.ctp.notices ++ [.hostAbsent s.ctp.period])

/-- Without places for its reply, one for each part of a report, a command is not carried out, and COMMAND_DROPPED carries its
kind and tag (R187, step 1). A valid frame of no command kind is answered UNKNOWN_KIND under reply kind FFh or its kind plus
80h (step 2; R188), and one whose payload length is not that of Table 9-4 BAD_LENGTH, SEAT_TEXT below three bytes (step 3);
neither changes anything else. -/
def Obligations.UnfitFramesChangeNothing : Prop :=
  (∀ (c : Instr) (f : Frame) (s : State), frameOf c = some f → s.running = true → s.inboundIgnored = false →
      8 ≤ s.ctp.replies.length → exec c s = .next (s.heard.notify (.commandDropped f.kind f.tag))) ∧
  (∀ (s : State) (tag l lo g : Byte), s.running = true → s.inboundIgnored = false →
      let u := s.heard
      let dropped := fun (c : Instr) (kind : Byte) (report : List Byte) =>
        8 < s.ctp.replies.length + partCount report.length → exec c s = .next (u.notify (.commandDropped kind tag))
      dropped (.statusGet tag []) 0x01#8 u.statusReport ∧ dropped (.hallGet tag []) 0x15#8 u.hallReport ∧
      (l.toNat ≤ 3 → dropped (.lineGet tag [l]) 0x25#8 (u.lineReport l.toNat)) ∧
      dropped (.seatGet tag [0#8, lo]) 0x28#8 (u.seatReport lo.toNat) ∧
      (1 ≤ g.toNat → g.toNat ≤ 6 → dropped (.roomGet tag [g]) 0x37#8 (u.floorReport (u.roomOf g.toNat))) ∧
      dropped (.languageGet tag []) 0x43#8 u.languageReport ∧ dropped (.clipGet tag []) 0x50#8 u.clipReport) ∧
  (∀ (kind tag : Byte) (payload : List Byte) (s : State), Accepts s 1 →
      exec (.unknownKind kind tag payload) s =
        .next (s.heard.queueReplies
          [{ kind := if kind.toNat < 127 then kind + 128#8 else 255#8, tag := tag, payload := [4#8] }])) ∧
  (∀ (c : Instr) (f : Frame) (n : Nat) (s : State), c.wellFormed = true → frameOf c = some f →
    payloadLength f.kind = some n → f.payload.length ≠ n → Accepts s 1 →
    exec c s = .next (s.heard.replied f.kind f.tag .badLength)) ∧
  (∀ (tag : Byte) (payload : List Byte) (s : State), payload.length < 3 → Accepts s 1 →
    exec (.seatText tag payload) s = .next (s.heard.replied 0x29#8 tag .badLength))

/-- The report commands are answered with the report of the state in which they are taken and change nothing else; CLIP_GET
then clears every clip record (R19, R57, R63, R103, R152, R178, R189, R203). A line above 3, a seat above 255 and a segment
outside 1..6 are refused OUT_OF_RANGE. The reports hold the records of that state in the order of Tables 9-7 to 9-10: what
the model settles of their bytes is the seconds and milliseconds left, from times counted in audio frames (logs 7, 17), the
kind of a unit (log 23), the pulses before this reply (log 28), a census position of 64 at most (log 30), the stored B channel
(log 48), and one byte for each count or position whose size no table gives (log 52), up to 255 holders (log 18). -/
def Obligations.ReportCommandsAnswer : Prop :=
  (∀ s : State, ReportsTell s) ∧
  ∀ (s : State) (tag l hi lo g : Byte),
    let u := s.heard
    (Accepts s (partCount u.statusReport.length) →
      exec (.statusGet tag []) s = .next (u.reported 0x01#8 tag u.statusReport)) ∧
    (Accepts s (partCount u.hallReport.length) →
      exec (.hallGet tag []) s = .next (u.reported 0x15#8 tag u.hallReport)) ∧
    (l.toNat ≤ 3 → Accepts s (partCount (u.lineReport l.toNat).length) →
      exec (.lineGet tag [l]) s = .next (u.reported 0x25#8 tag (u.lineReport l.toNat))) ∧
    (hi = 0#8 → Accepts s (partCount (u.seatReport lo.toNat).length) →
      exec (.seatGet tag [hi, lo]) s = .next (u.reported 0x28#8 tag (u.seatReport lo.toNat))) ∧
    (1 ≤ g.toNat → g.toNat ≤ 6 → Accepts s (partCount (u.floorReport (u.roomOf g.toNat)).length) →
      exec (.roomGet tag [g]) s = .next (u.reported 0x37#8 tag (u.floorReport (u.roomOf g.toNat)))) ∧
    (Accepts s (partCount u.languageReport.length) →
      exec (.languageGet tag []) s = .next (u.reported 0x43#8 tag u.languageReport)) ∧
    (Accepts s (partCount u.clipReport.length) →
      exec (.clipGet tag []) s = .next (u.clearClips.reported 0x50#8 tag u.clipReport)) ∧
    (Accepts s 1 →
      (3 < l.toNat → exec (.lineGet tag [l]) s = .next (u.replied 0x25#8 tag .outOfRange)) ∧
      (255 < hi.toNat * 256 + lo.toNat → exec (.seatGet tag [hi, lo]) s = .next (u.replied 0x28#8 tag .outOfRange)) ∧
      ((g.toNat = 0 ∨ 6 < g.toNat) → exec (.roomGet tag [g]) s = .next (u.replied 0x37#8 tag .outOfRange))) ∧
    ((∀ r ∈ u.clearClips.mxe.rooms, r.clip = { latch := false, count := 0 }) ∧
      ∀ c ∈ u.clearClips.mxe.channels, c = { latch := false, count := 0 })

/-- A report travels in parts: each frame's payload is OK, the part number from 1, the part count, and the report bytes, 509
in every part but the last; together they are the report (R189). -/
def Obligations.ReportIsCutInParts : Prop :=
  ∀ (bytes : List Byte) (kind tag : Byte),
    let fs := (Reply.report bytes).frames kind tag
    fs.length = partCount bytes.length ∧ 1 ≤ fs.length ∧
    (fs.map fun f => f.payload.drop 3).flatten = bytes ∧
    ∀ (i : Nat) (f : Frame), fs[i]? = some f →
      f.payload.take 3 = [0#8, BitVec.ofNat 8 (i + 1), BitVec.ofNat 8 fs.length] ∧ f.payload.length ≤ 512 ∧
      (i + 1 < fs.length → f.payload.length = 512)

/-- A notice is queued at the tail, left out with its class disabled, or counted as lost at a full queue; class SYSTEM is
always enabled (R192). Its record holds its code, its class and its fields in the order of Tables 9-5 and 9-6, each field coded as
Table 9-3 states (R205). The model's choices in it: the kind of a unit (log 23); a holder count of one byte (log 52), stated
for up to 255 holders (log 18); and that the PRIORITY_ON of 255 holders, longer than the 512 bytes of R182, is sent whole (log
41). -/
def Obligations.NoticeIsTakenByTheTable : Prop :=
  FieldCodes ∧ NoticeRecords ∧
  ∀ (c : Ctp) (n : Notice),
    ((n.cls ≠ .system ∧ c.mask.getLsbD n.cls.bit = false) → c.notify n = c) ∧
    ((n.cls = .system ∨ c.mask.getLsbD n.cls.bit = true) → c.notices.length < 56 →
      (c.notify n).notices = c.notices ++ [n] ∧ (c.notify n).loss = c.loss ∧
      (c.notify n).pulses = (if c.attn.enable ∧ c.attn.mode = .pulse then min 64 (c.pulses + 1) else c.pulses)) ∧
    ((n.cls = .system ∨ c.mask.getLsbD n.cls.bit = true) → 56 ≤ c.notices.length →
      c.notify n = { c with loss := min 255 (c.loss + 1) })

/-- NOTICE_MASK sets bits 1 to 7 of the live mask and keeps bit 0 set (R194); PROFILE_SET sets the pending profile alone and
answers PENDING, the active profile, the pool and the channel count staying (R207); FADE_TIME sets the live fade time, clamped
to 50..1000 ms, and leaves the K of a regroup in flight (R24). -/
def Obligations.MaskProfileAndFadeTimeAreSet : Prop :=
  (∀ (s : State) (tag mask : Byte), Accepts s 1 →
      ∃ t, exec (.noticeMask tag [mask]) s = .next t ∧
        t = ({ s.heard with ctp := { s.heard.ctp with mask := mask ||| 1#8 } }).queueReplies
          [{ kind := 0x83#8, tag := tag, payload := [0#8, mask ||| 1#8] }] ∧
        t.ctp.mask.getLsbD 0 = true ∧ ∀ i, 1 ≤ i → i ≤ 7 → t.ctp.mask.getLsbD i = mask.getLsbD i) ∧
  (∀ (s : State) (tag profile : Byte), Accepts s 1 →
      (2 < profile.toNat → exec (.profileSet tag [profile]) s = .next (s.heard.replied 0x07#8 tag .outOfRange)) ∧
      (∀ p : Profile, profileValues[profile.toNat]? = some p →
        ∃ t, exec (.profileSet tag [profile]) s = .next t ∧
          t = ({ s.heard with sts := { s.heard.sts with pending := p } }).queueReplies
            [{ kind := 0x87#8, tag := tag, payload := [1#8, profile] }] ∧
          t.sts.active = s.heard.sts.active ∧ t.pool = s.heard.pool ∧ t.activeChannels = s.heard.activeChannels)) ∧
  ∀ (s : State) (tag hi lo : Byte), Accepts s 1 →
      let ms := hi.toNat * 256 + lo.toNat
      exec (.fadeTime tag [hi, lo]) s = .next (({ s.heard with ptu := { s.heard.ptu with
        fadeTime := if ms < 50 then 50 else if 1000 < ms then 1000 else ms } }).replied 0x13#8 tag .ok)

/-- ATTN_SET: a value outside its list refuses the whole command; otherwise the three settings are set, a pulse in progress
ends, and the pending pulses and ATTN follow the new mode (R198). That no release time follows a pulse cut short is the model's
choice (log 42). -/
def Obligations.AttnSetActs : Prop :=
  ∀ (s : State) (tag enable mode width : Byte), Accepts s 1 → QueuesBounded s.heard →
    ((1 < enable.toNat ∨ 1 < mode.toNat) →
      exec (.attnSet tag [enable, mode, width]) s = .next (s.heard.replied 0x04#8 tag .outOfRange)) ∧
    (enable.toNat ≤ 1 → mode.toNat ≤ 1 →
      ∃ t, exec (.attnSet tag [enable, mode, width]) s = .next t ∧
        t = { s.heard with ctp := { s.heard.ctp with
          attn := t.ctp.attn, pulse := t.ctp.pulse, pulses := t.ctp.pulses, replies := t.ctp.replies } } ∧
        t.ctp.attn.enable = decide (enable.toNat = 1) ∧
        t.ctp.attn.mode = (if mode.toNat = 0 then .level else .pulse) ∧ t.ctp.attn.width = min 7 width.toNat ∧
        t.ctp.pulse = .idle ∧
        t.ctp.pulses =
          (if enable.toNat = 1 ∧ mode.toNat = 1 then t.ctp.replies.length + t.ctp.notices.length else 0) ∧
        t.ctp.replies = s.heard.ctp.replies ++
          [{ kind := 0x84#8, tag := tag, payload := [0#8, enable, mode, BitVec.ofNat 8 (min 7 width.toNat)] }] ∧
        t.attn = decide (enable.toNat = 1 ∧ mode.toNat = 0))

/-- SUPERVISION_SET sets the live period, 1 taken as 2, stops or restarts the timer, and a save then copies it (R202). -/
def Obligations.SupervisionSetsThePeriod : Prop :=
  ∀ (s : State) (tag seconds : Byte), Accepts s 1 →
    ∃ t, exec (.supervisionSet tag [seconds]) s = .next t ∧
      t.ctp.period = (if seconds.toNat = 1 then 2 else seconds.toNat) ∧
      t = ({ s.heard with ctp := { s.heard.ctp with period := t.ctp.period, absenceFrames := 0 } }).queueReplies
        [{ kind := 0x85#8, tag := tag, payload := [0#8, BitVec.ofNat 8 t.ctp.period] }] ∧
      t.ctp.autonomous = false ∧ t.ctp.timerRuns = decide (seconds.toNat ≠ 0) ∧ t.ctp.secondsLeft = t.ctp.period ∧
      t.ctp.absenceCount = 0 ∧ t.snapshot.period = t.ctp.period

/-- A frame with a wrong check value or a payload length above 512 is discarded with FRAME_ERROR: no reply, no restart of
the timer, nothing else changed, and the rest of the transfer ignored (R184, R185, R199). Inbound bytes are ignored outside a
transfer, as after a start until the first transfer that begins (R204), and once a frame of the transfer has been taken or
discarded (R184): then a command's frame of any kind, a frame with a wrong check value and one with a length above 512 change
nothing, not the absence timer either (log 9). That a frame's row brings it whole is the model's (log 8). -/
def Obligations.BadFramesAreDiscarded : Prop :=
  (∀ s : State, (s.inboundIgnored = true ↔ ∀ x, s.ctp.transfer = some x → x.inboundDone = true) ∧
    s.markInbound.inboundIgnored = true ∧ s.heard.inboundIgnored = true ∧
    (s.inboundIgnored = true →
      (∀ (c : Instr) (f : Frame), frameOf c = some f → exec c s = .next s) ∧
      (∀ (kind tag : Byte) (payload : List Byte) (check : BitVec 16),
        exec (.frameCheckFailed kind tag payload check) s = .next s) ∧
      ∀ length : BitVec 16, exec (.frameLengthExcess length) s = .next s)) ∧
  ∀ (s : State), s.running = true → s.inboundIgnored = false →
    (∀ (kind tag : Byte) (payload : List Byte) (check : BitVec 16), check ≠ frameCheck kind tag payload →
      exec (.frameCheckFailed kind tag payload check) s =
        .next (s.markInbound.notify (.frameError .crc (payload.length + 7) payload.length kind tag))) ∧
    (∀ length : BitVec 16, 512 < length.toNat →
      exec (.frameLengthExcess length) s =
        .next (s.markInbound.notify (.frameError .length 3 length.toNat 0#8 0#8))) ∧
    s.markInbound = { s with ctp := { s.ctp with
      transfer := s.ctp.transfer.map fun t => { t with inboundDone := true } } }

/-- A transfer that starts takes the head of the reply queue, else of the notice queue, else nothing, and changes no queue;
data out carries the frame's bytes and then 00h, and 00h throughout where no frame was chosen or the frame has been sent
(R180). The frame leaves its queue when it has been sent whole; where losses are counted, the place a notice frees takes
NOTICE_LOSS and the count returns to 0 (R181, R193). The release of chip select ends the transfer and keeps an unsent frame
whole; a partial inbound frame is discarded with FRAME_ERROR TRUNCATED, and nothing is said where no sync byte came or the
frame was over (R186). The length field counts as arrived when both its bytes have (log 37). That data out carries 00h too for
the rest of a transfer that a start or a hold of the part has abandoned is the model's choice (log 56). -/
def Obligations.TransferSendsTheHead : Prop :=
  (∀ s : State, s.running = true → s.ctp.transfer = none →
      ∃ t, exec .transferStart s = .next t ∧ t = { s with ctp := { s.ctp with transfer := t.ctp.transfer } } ∧
        (∀ f fs, s.ctp.replies = f :: fs → t.outboundBytes = f.bytes) ∧
        (∀ n ns, s.ctp.replies = [] → s.ctp.notices = n :: ns → t.outboundBytes = n.frame.bytes) ∧
        (s.ctp.replies = [] → s.ctp.notices = [] → t.outboundBytes = []) ∧ t.inboundIgnored = false) ∧
  (∀ (s : State) (i : Nat),
      (∀ b, s.outboundBytes[i]? = some b → s.dataOut i = b) ∧ (s.outboundBytes.length ≤ i → s.dataOut i = 0#8) ∧
      (∀ d, s.ctp.transfer = some ⟨.none, d⟩ → s.dataOut i = 0#8)) ∧
  (∀ (s : State) (d : Bool), s.running = true →
      (∀ f fs, s.ctp.transfer = some ⟨.reply, d⟩ → s.ctp.replies = f :: fs →
        exec .outboundFrameSent s = .next { s with ctp := { s.ctp with replies := fs, transfer := some ⟨.none, d⟩ } }) ∧
      (∀ n ns, s.ctp.transfer = some ⟨.notice, d⟩ → s.ctp.notices = n :: ns → s.ctp.loss = 0 →
        exec .outboundFrameSent s = .next { s with ctp := { s.ctp with notices := ns, transfer := some ⟨.none, d⟩ } }) ∧
      (∀ n ns, s.ctp.transfer = some ⟨.notice, d⟩ → s.ctp.notices = n :: ns → s.ctp.loss ≠ 0 → ns.length < 56 →
        ∃ t, exec .outboundFrameSent s = .next t ∧ t.ctp.notices = ns ++ [.noticeLoss s.ctp.loss] ∧ t.ctp.loss = 0 ∧
          t.ctp.replies = s.ctp.replies ∧ t = { s with ctp := t.ctp } ∧
          t.ctp = { s.ctp with notices := ns, loss := 0, transfer := some ⟨.none, d⟩ }.notify (.noticeLoss s.ctp.loss))) ∧
  (∀ (s : State) (x : Transfer) (received : List Byte), s.running = true → s.ctp.transfer = some x →
      let u := { s with ctp := { s.ctp with transfer := none } }
      ((received = [] ∨ x.inboundDone = true) → exec (.chipSelectRelease received) s = .next u) ∧
      (received ≠ [] → x.inboundDone = false →
        exec (.chipSelectRelease received) s = .next (u.notify (.frameError .truncated received.length
          (if received.length < 3 then 0 else (received.getD 1 0#8).toNat * 256 + (received.getD 2 0#8).toNat)
          (received.getD 3 0#8) (received.getD 4 0#8)))))

/-- With the enable OFF, ATTN is released in either mode, no pulse begins, and the queues fill and empty as they do otherwise,
without a pending pulse (R195). With it ON: the pulse timing of PULSE mode, where a pulse begins while the count is above 0 and
none is in progress, and a release follows each pulse; in LEVEL mode ATTN is asserted while a frame waits (R196, R197).
ATTN_PULSE is one step of that timing (log 6). -/
def Obligations.AttnPulsesAndLevels : Prop :=
  (∀ s : State, s.ctp.attn.enable = false →
    s.attn = false ∧ exec .attnPulse s = .next s ∧
    let on : Ctp := { s.ctp with attn := { s.ctp.attn with enable := true } }
    let off := fun c : Ctp => { c with attn := s.ctp.attn, pulses := s.ctp.pulses }
    (∀ f, s.ctp.queueReply f = off (on.queueReply f) ∧ (s.ctp.queueReply f).replies = s.ctp.replies ++ [f]) ∧
    (∀ n, s.ctp.notify n = off (on.notify n)) ∧
    (∃ o, exec .transferStart { s with ctp := on } = .next o ∧ exec .transferStart s = .next { o with ctp := off o.ctp }) ∧
    ∃ o, exec .outboundFrameSent { s with ctp := on } = .next o ∧
      exec .outboundFrameSent s = .next { o with ctp := off o.ctp }) ∧
  ∀ s : State, s.running = true → s.ctp.attn.enable = true →
    (s.ctp.attn.mode = .level →
      exec .attnPulse s = .next s ∧ s.attn = !(s.ctp.replies.isEmpty && s.ctp.notices.isEmpty)) ∧
    (s.ctp.attn.mode = .pulse → ∃ t, exec .attnPulse s = .next t ∧
      t = { s with ctp := { s.ctp with pulse := t.ctp.pulse, pulses := t.ctp.pulses } } ∧
      (s.ctp.pulse = .asserted → t.attn = false ∧ t.ctp.pulses = s.ctp.pulses) ∧
      (s.ctp.pulse ≠ .asserted → 0 < s.ctp.pulses → t.attn = true ∧ t.ctp.pulses = s.ctp.pulses - 1) ∧
      (s.ctp.pulse ≠ .asserted → s.ctp.pulses = 0 → t.attn = false ∧ t.ctp.pulses = 0))

/-! ### Settings store -/

/-- SETTINGS_SAVE takes a snapshot of the live settings and makes the image invalid; during a save it is answered BUSY and
the save goes on (R209, R211). At its end, after a good write, the image holds the snapshot and its CRC-32 and is valid,
otherwise it stays invalid; STORE_DONE carries the result and the flag clears (R210). The image is valid exactly while its
CRC-32 is that of its contents (R208). Whether the write went well is the event's operand (log 20); the bytes the CRC-32 covers
and what a broken write leaves are the model's (log 19). -/
def Obligations.SaveTakesAndStoresASnapshot : Prop :=
  (∀ (s : State) (tag : Byte), Accepts s 1 →
      (s.heard.sts.saving = none →
        exec (.settingsSave tag []) s = .next (({ s.heard with sts := { s.heard.sts with
            saving := some s.heard.snapshot
            image := s.heard.sts.image.spoiled } }).replied 0x06#8 tag .ok)) ∧
      (∀ x, s.heard.sts.saving = some x →
        exec (.settingsSave tag []) s = .next (s.heard.replied 0x06#8 tag .busy))) ∧
  (∀ (s : State) (x : Settings), s.running = true → s.sts.saving = some x →
      exec (.saveWriteComplete true) s = .next (({ s with sts := { s.sts with
        saving := none, image := { contents := x, crc := crc32 x.bytes } } }).notify (.storeDone .ok)) ∧
      exec (.saveWriteComplete false) s = .next (({ s with sts := { s.sts with
        saving := none, image := s.sts.image.spoiled } }).notify (.storeDone .writeFailed))) ∧
  ∀ (i : Image) (x : Settings),
      (i.valid = true ↔ i.crc = crc32 i.contents.bytes) ∧ i.spoiled.valid = false ∧ i.spoiled.contents = i.contents ∧
      ({ contents := x, crc := crc32 x.bytes } : Image).valid = true

/-- FACTORY_DEFAULTS returns every live setting of Table 10-2 to its factory default and sets every channel DORMANT with no
listener; what is no setting stays: the image, the save, the active profile, the map, the line states, unit counts and line
flags, seat presence, texts and miss counts, the clip records, and the talk totals, to which a microphone closed here adds its
seconds (R212, R22, R65, R157, R179, R204, R123). Each room's coefficient set takes its new settings in force (R161). No floor
record is left (R110), and its notices (PRIORITY_OFF where a chair is the last of its room) and those of the languages (R157;
logs 38, 39, 46, and 55 on the order of BOOTH_UNPARKED) come in the order of R212; then the walls are worked out again from
their settled states one by one (log 13), with WALL_CONFLICT for each flag cleared and the sequencer's receiving (R22). -/
def Obligations.FactoryDefaultsRestoreEverySetting : Prop :=
  ∀ (s : State) (tag : Byte), Accepts s 1 → TablesSized s.heard →
    ∃ t, exec (.factoryDefaults tag []) s = .next t ∧ t.snapshot = factorySettings ∧
      t.sts.image = s.heard.sts.image ∧ t.sts.saving = s.heard.sts.saving ∧ t.sts.active = s.heard.sts.active ∧
      t.joins = s.heard.joins ∧ (∀ l, t.line l = { s.heard.line l with set := (t.line l).set }) ∧
      (∀ n, n < 256 →
        let y := s.heard.seat n
        t.seat n = { y with
          set := (t.seat n).set, listen := 0, desk := { live := false, output := .a, input := 0 }
          talkTotal := match s.heard.speaker n with
            | some e => if y.set.placement.isSome then min 16777215 (y.talkTotal + e.seconds) else y.talkTotal
            | none => y.talkTotal }) ∧
      t.mxe.rooms.map (·.clip) = s.heard.mxe.rooms.map (·.clip) ∧ t.mxe.channels = s.heard.mxe.channels ∧
      (∀ c, t.role c = .dormant) ∧
      (FadeLaws s.heard → t.mxe = { s.heard.mxe with rooms := s.heard.mxe.rooms.map fun r =>
        { r with nom := true, gain := 16384#16, autoFloorGain := 11585#16 } }) ∧
      (FloorLaws s.heard →
        let u := s.heard
        t.flc.speakers = [] ∧ t.flc.queue = [] ∧ t.flc.holders = [] ∧ t.stamp = u.stamp ∧
        let floor := ((List.range 256).filter fun n => (u.placement n).isSome).flatMap fun n =>
          let room := u.seatRoomCode n
          (u.speaker n).toList.map (fun e => Notice.micClosed n room e.kind .host e.seconds) ++
          (u.request n).toList.map (fun _ => .requestRemoved n room .host) ++
          (if n ∈ u.flc.holders ∧ ∀ m ∈ u.holdersIn room, m ≤ n then [.priorityOff room n] else [])
        let languages := ([0, 1, 2, 3].flatMap fun l => u.deskLeaveNotices l .host) ++
          ([1, 2].filterMap fun m => if u.monitor m = .none then none else some (.monitorCleared m (u.monitor m) .host)) ++
          ((List.range' 1 24).filterMap fun c =>
            if u.role c = .dormant then none else some (.channelRole c 1 (u.role c) .dormant)) ++
          ((List.range' 1 16).filterMap fun b => if u.parked b = true then some (.boothUnparked b 1) else none) ++
          [.listenReset 0 ((List.range 256).countP fun n => (u.seat n).listen != 0)]
        let port := { u.ctp with
          mask := 0xFF#8, attn := { enable := true, mode := .level, width := 0 }, pulse := .idle, pulses := 0
          period := 0, absenceFrames := 0 }
        let p : State := { u with
          ptu := { u.ptu with
            fadeTime := factorySettings.fadeTime, segments := factorySettings.segments
            walls := u.ptu.walls.map fun w => { w with set := factoryWall } }
          ctp := (floor ++ languages).foldl Ctp.notify port }
        let h := [1, 2, 3, 4, 5].foldl (fun (v : State) k =>
          let w := v.wall k
          let join := match w.settled with
            | .opened => Join.joined
            | .closed => .split
            | .fault => w.requested
          let x := v.setWall k fun w => { w with requested := join, target := join, conflict := false }
          let y := if w.conflict then x.notify (.wallConflict k false .open_ .open_) else x
          if join = w.target then y else y.receiveTargets) p
        t.ptu = h.ptu ∧ t.ctp = h.ctp.queueReply { kind := 0x88#8, tag := tag, payload := [0#8] }) ∧
      t.ctp.replies = s.heard.ctp.replies ++ [{ kind := 0x88#8, tag := tag, payload := [0#8] }]

/-! ### Hall -/

/-- The room map is a partition of the six segments into runs: every segment lies in exactly one room, the walls inside a room
are JOINED, and those at its ends are SPLIT (R11). -/
def Obligations.RoomMapIsAPartition : Prop :=
  ∀ joins : List Join,
    (∀ g, 1 ≤ g → g ≤ 6 → leadOf joins g ≤ g ∧ g ≤ lastOf joins g ∧
      (leadOf joins g, lastOf joins g) ∈ mapOf joins ∧
      ∀ r ∈ mapOf joins, r.1 ≤ g → g ≤ r.2 → r = (leadOf joins g, lastOf joins g)) ∧
    (∀ r ∈ mapOf joins, 1 ≤ r.1 ∧ r.1 ≤ r.2 ∧ r.2 ≤ 6 ∧
      (∀ k, r.1 ≤ k → k < r.2 → joinAt joins k = .joined) ∧
      (1 < r.1 → joinAt joins (r.1 - 1) = .split) ∧ (r.2 < 6 → joinAt joins r.2 = .split))

/-- WALL_POLICY: the table of R13, the requested join (R8), and the effective target and conflict flag of the wall with
WALL_CONFLICT (R9). WALL_SET: the held join is written; under HELD the requested join, the effective target and the conflict
flag follow it, under FOLLOW nothing else changes (R14, R9). Neither changes the other walls' records, the segments, or
anything outside the hall but the notices; where the wall's effective target changes, and there alone, the sequencer receives
the target vector (R10). -/
def Obligations.WallCommandsAct : Prop :=
  (∀ (s : State) (tag k policy settle : Byte), Accepts s 1 → s.heard.ptu.walls.length = 5 →
      ((k.toNat = 0 ∨ 5 < k.toNat ∨ 1 < policy.toNat) →
        exec (.wallPolicy tag [k, policy, settle]) s = .next (s.heard.replied 0x10#8 tag .outOfRange)) ∧
      (1 ≤ k.toNat → k.toNat ≤ 5 → policy.toNat ≤ 1 →
        ∃ u : State, exec (.wallPolicy tag [k, policy, settle]) s = .next (u.replied 0x10#8 tag .ok) ∧
          SameOutsideHall s.heard u ∧ u.ptu.segments = s.heard.ptu.segments ∧
          WallChecked s.heard s.heard.ctp k.toNat u ∧
          let w := s.heard.wall k.toNat
          let v := u.wall k.toNat
          v.set.policy = (if policy.toNat = 0 then .follow else .held) ∧
          v.set.settleTime = (if settle.toNat = 0 then 1 else if 30 < settle.toNat then 30 else settle.toNat) ∧
          v.set.held = (if w.set.policy = .follow ∧ policy.toNat = 1 then w.current else w.set.held) ∧
          v.requested = (if policy.toNat = 1 then v.set.held else match w.settled with
            | .opened => .joined
            | .closed => .split
            | .fault => w.requested) ∧
          v = { w with set := v.set, requested := v.requested, target := v.target, conflict := v.conflict })) ∧
  ∀ (s : State) (tag k join : Byte), Accepts s 1 → s.heard.ptu.walls.length = 5 →
      ((k.toNat = 0 ∨ 5 < k.toNat ∨ 1 < join.toNat) →
        exec (.wallSet tag [k, join]) s = .next (s.heard.replied 0x11#8 tag .outOfRange)) ∧
      (1 ≤ k.toNat → k.toNat ≤ 5 → join.toNat ≤ 1 →
        ∃ u : State, exec (.wallSet tag [k, join]) s = .next (u.replied 0x11#8 tag .ok) ∧
          SameOutsideHall s.heard u ∧ u.ptu.segments = s.heard.ptu.segments ∧
          (∀ i, 1 ≤ i → i ≤ 5 → i ≠ k.toNat → u.wall i = s.heard.wall i) ∧
          let w := s.heard.wall k.toNat
          let v := u.wall k.toNat
          let j : Join := if join.toNat = 0 then .split else .joined
          v.set = { w.set with held := j } ∧
          (w.set.policy = .follow → v = { w with set := { w.set with held := j } } ∧
            u = { s.heard with ptu := { s.heard.ptu with walls := u.ptu.walls } }) ∧
          (w.set.policy = .held → v.requested = j ∧ WallChecked s.heard s.heard.ctp k.toNat u) ∧
          v = { w with set := v.set, requested := v.requested, target := v.target, conflict := v.conflict })

/-- SEGMENT_PRIVACY: the checks of R15 in their order; the privacy already in force changes nothing; the other privacy is set,
the effective target and conflict flag of each wall beside the segment are worked out again, the lower first, with
WALL_CONFLICT and the sequencer's receiving (R16, R9, R10; each wall by itself, log 13), and a PRIVATE segment leaves no monitor
route to its floor or its channels, with MONITOR_CLEARED of each route cleared after those notices (R16, R149; M1 before M2, log
46). -/
def Obligations.SegmentPrivacyActs : Prop :=
  ∀ (s : State) (tag g privacy : Byte), Accepts s 1 → s.heard.ptu.segments.length = 6 →
    s.heard.lgr.monitors.length = 2 →
    let u := s.heard
    let n := g.toNat
    let p : Privacy := if privacy.toNat = 0 then .open_ else .closed_
    ((n = 0 ∨ 6 < n ∨ 1 < privacy.toNat) →
      exec (.segmentPrivacy tag [g, privacy]) s = .next (u.replied 0x12#8 tag .outOfRange)) ∧
    (1 ≤ n → n ≤ 6 → privacy.toNat ≤ 1 →
      ((u.roomOf n ≠ n ∨ lastOf u.joins n ≠ n) →
        exec (.segmentPrivacy tag [g, privacy]) s = .next (u.replied 0x12#8 tag .wrongState)) ∧
      (u.roomOf n = n → lastOf u.joins n = n → (u.room n).direction ≠ .steady →
        exec (.segmentPrivacy tag [g, privacy]) s = .next (u.replied 0x12#8 tag .busy)) ∧
      (u.roomOf n = n → lastOf u.joins n = n → (u.room n).direction = .steady → u.privacy n = p →
        exec (.segmentPrivacy tag [g, privacy]) s = .next (u.replied 0x12#8 tag .ok)) ∧
      (u.roomOf n = n → lastOf u.joins n = n → (u.room n).direction = .steady → u.privacy n ≠ p →
        let segments := u.ptu.segments.modify (n - 1) (fun x => { x with privacy := p })
        let changed := { u with ptu := { u.ptu with segments := segments } }
        ∃ a b v : State, exec (.segmentPrivacy tag [g, privacy]) s = .next (v.replied 0x12#8 tag .ok) ∧
          v.ptu.segments = segments ∧
          (n = 1 → a = changed) ∧ (n ≠ 1 → WallChecked changed u.ctp (n - 1) a) ∧
          (n = 6 → b = a) ∧ (n ≠ 6 → WallChecked a a.ctp n b) ∧
          (∀ k, 1 ≤ k → k ≤ 5 → v.wall k =
            { u.wall k with target := (v.wall k).target, conflict := (v.wall k).conflict }) ∧
          let concerned := fun m => match u.monitor m with
            | .none => false
            | .floor h => h == n
            | .channel c => (u.channel c).home == n
          v = { b with lgr := v.lgr, ctp := v.ctp } ∧ (p = .open_ → v = b) ∧
          (p = .closed_ → v.ctp = ([1, 2].filter concerned).foldl
            (fun c m => c.notify (.monitorCleared m (u.monitor m) .privacy)) b.ctp) ∧
          (concerned 1 = false → concerned 2 = false → v = b) ∧
          v.slc = u.slc ∧ v.flc = u.flc ∧ v.mxe = u.mxe ∧ v.sts = u.sts ∧ v.stamp = u.stamp ∧ v.joins = u.joins ∧
          v.lgr.channels = u.lgr.channels ∧ v.lgr.booths = u.lgr.booths ∧
          (p = .open_ → v.lgr.monitors = u.lgr.monitors) ∧
          (p = .closed_ → ∀ m, (m = 1 ∨ m = 2) →
            ((u.monitor m = .floor n ∨ ∃ c, u.monitor m = .channel c ∧ (u.channel c).home = n) → v.monitor m = .none) ∧
            (u.monitor m ≠ .floor n → (∀ c, u.monitor m = .channel c → (u.channel c).home ≠ n) →
              v.monitor m = u.monitor m))))

/-- The fields of a room template: an enumerated byte outside its list gives none, and numbers are clamped as Table 1-1 states
(R3). ROOM_TEMPLATE replaces the whole template of its segment, and refuses a segment outside 1..6. Where the segment leads no
room nothing else changes; where it does, the room's settings in force and its coefficient set are the new ones (R17, R18,
R12, R161), every other room's set, every clip record and the audio staying as they were (R179), and its floor follows in the
steps of R104: a mode other than QUEUED empties the queue (R105), CLOSE_ALL under priority closes the delegates and empties
the queue (R106), a new limit closes those above it youngest first and in QUEUED mode returns them oldest first while a
request entry is free, with REQUEST_DROPPED for the rest (R107), a new speech timing calls a timer check of each delegate
(R121), and the advance rule comes last. Whether an expiry held before is judged by the room's settings before the command,
between a remap and its timer check too (log 45). -/
def Obligations.RoomTemplateReplaces : Prop :=
  (∀ mode limit nom r1 r0 s1 s0 lead expiry priority advance close h1 h0 : Byte,
      let bytes := [mode, limit, nom, r1, r0, s1, s0, lead, expiry, priority, advance, close, h1, h0]
      let seconds := s1.toNat * 256 + s0.toNat
      ((2 < mode.toNat ∨ 1 < nom.toNat ∨ 1 < expiry.toNat ∨ 1 < priority.toNat ∨ 1 < advance.toNat ∨ 1 < close.toNat) →
        templateOf bytes = none) ∧
      (mode.toNat ≤ 2 → nom.toNat ≤ 1 → expiry.toNat ≤ 1 → priority.toNat ≤ 1 → advance.toNat ≤ 1 → close.toNat ≤ 1 →
        templateOf bytes = some
          { mode := if mode.toNat = 0 then .direct else if mode.toNat = 1 then .queued else .override
            limit := if limit.toNat = 0 then 1 else if 48 < limit.toNat then 48 else limit.toNat
            nom := decide (nom.toNat = 1)
            gain := BitVec.ofNat 16 (r1.toNat * 256 + r0.toNat)
            speechLimit :=
              if seconds = 0 then 0 else if seconds < 10 then 10 else if 3600 < seconds then 3600 else seconds
            warningLead := if 120 < lead.toNat then 120 else lead.toNat
            expiryAction := if expiry.toNat = 0 then .close else .notify
            priorityAction := if priority.toNat = 0 then .muteOnly else .closeAll
            autoAdvance := decide (advance.toNat = 1)
            delegateClose := decide (close.toNat = 1)
            autoFloorGain := BitVec.ofNat 16 (h1.toNat * 256 + h0.toNat) })) ∧
  (∀ (s : State) (tag g : Byte) (fields : List Byte), Accepts s 1 → fields.length = 14 → (g.toNat = 0 ∨ 6 < g.toNat) →
      exec (.roomTemplate tag (g :: fields)) s = .next (s.heard.replied 0x14#8 tag .outOfRange)) ∧
  ∀ (s : State) (tag g : Byte) (fields : List Byte), Accepts s 1 → s.heard.ptu.segments.length = 6 →
      fields.length = 14 → 1 ≤ g.toNat → g.toNat ≤ 6 →
      (templateOf fields = none →
        exec (.roomTemplate tag (g :: fields)) s = .next (s.heard.replied 0x14#8 tag .outOfRange)) ∧
      (∀ x, templateOf fields = some x →
        ∃ u : State, exec (.roomTemplate tag (g :: fields)) s = .next (u.replied 0x14#8 tag .ok) ∧
          u.ptu = { s.heard.ptu with
            segments := s.heard.ptu.segments.modify (g.toNat - 1) (fun y => { y with template := x }) } ∧
          (s.heard.roomOf g.toNat ≠ g.toNat → u = { s.heard with ptu := u.ptu }) ∧
          (s.heard.roomOf g.toNat = g.toNat → u.settings g.toNat = { x with limit := min x.limit s.heard.pool } ∧
            u.mxe = { s.heard.mxe with rooms := s.heard.mxe.rooms.map fun r =>
              if r.lead = g.toNat then { r with nom := x.nom, gain := x.gain, autoFloorGain := x.autoFloorGain } else r } ∧
            u.lgr = s.heard.lgr ∧ u.sts = s.heard.sts ∧
            let lead := g.toNat
            let old := s.heard.settings lead
            let new := u.settings lead
            let s0 := { s.heard with ptu := u.ptu }
            let takes := old.priorityAction = .muteOnly ∧ new.priorityAction = .closeAll ∧ s0.holdersIn lead ≠ []
            ∃ s1 s2 s3 : State,
              (old.mode = .queued → new.mode ≠ .queued →
                s1 = (s0.queueIn lead).foldl (fun v q => v.removeRequest q.seat .mode) s0 ∧
                s1 = { s0 with ctp := s1.ctp
                               flc := { s0.flc with queue := s0.flc.queue.filter fun q => !s0.inRoom lead q.seat } }) ∧
              ((old.mode ≠ .queued ∨ new.mode = .queued) → s1 = s0) ∧
              (takes → s2 = (s1.queueIn lead).foldl (fun v q => v.removeRequest q.seat .priority)
                  ((s1.delegatesIn lead).foldl (fun v e => v.closeMic e.seat .priority) s1) ∧
                SameOutsideFloor s1 s2 ∧ s2.flc = { s1.flc with
                speakers := s1.flc.speakers.filter fun e => !((s1.delegatesIn lead).map (·.seat)).contains e.seat
                queue := s1.flc.queue.filter fun q => !s0.inRoom lead q.seat }) ∧
              (¬takes → s2 = s1) ∧
              (old.limit = new.limit → s3 = s2) ∧
              (old.limit ≠ new.limit →
                let excess := (s2.delegatesIn lead).drop new.limit
                let free := 96 - s2.flc.queue.length
                let closed := excess.reverse.foldl (fun v e => v.closeMic e.seat .limit) s2
                SameOutsideFloor s2 s3 ∧ s3.flc.holders = s2.flc.holders ∧
                s3.flc.speakers = (s2.flc.speakers.filter fun e => !(excess.map (·.seat)).contains e.seat) ∧
                (new.mode ≠ .queued → s3 = closed ∧ s3.flc.queue = s2.flc.queue) ∧
                (new.mode = .queued →
                  s3 = (excess.drop free).foldl (fun v e => v.notify (.requestDropped e.seat lead .limit))
                    ((excess.take free).foldl (fun v e => v.addRequest e.seat .returned e.stamp) closed) ∧
                  s3.flc.queue = (excess.take free).foldl
                    (fun q e => insertBefore Request.before ⟨e.seat, .returned, e.stamp⟩ q) s2.flc.queue)) ∧
              let timed := old.speechLimit ≠ new.speechLimit ∨ old.warningLead ≠ new.warningLead ∨
                old.expiryAction ≠ new.expiryAction
              let checked := (s3.delegatesIn lead).foldl (fun v e => v.timerCheck e.seat
                (decide (old.speechLimit ≠ 0 ∧ old.speechLimit + e.extension ≤ e.seconds))) s3
              (timed → u = { checked.advance with mxe := u.mxe }) ∧
              (¬timed → u = { s3.advance with mxe := u.mxe })))

/-- The bands of a reading (Table 1-3, R5), and how a measurement stores each wall's reading and drives its settle timer by
the table of R6; nothing else changes. The mark of an expiry is the model's (log 4): a measurement that finds marks of the one
before still standing takes those settles first, as SETTLE_EXPIRY takes them, in wall order (log 5), and is then the measurement
of the state they leave, in which no mark stands. -/
def Obligations.WallMeasurementDrivesTimers : Prop :=
  (∀ r : Byte,
      (r.toNat ≤ 31 → bandOf r = .fault ∧ faultKindOf r = some .short) ∧
      (32 ≤ r.toNat → r.toNat ≤ 95 → bandOf r = .closed ∧ faultKindOf r = none) ∧
      (96 ≤ r.toNat → r.toNat ≤ 191 → bandOf r = .opened ∧ faultKindOf r = none) ∧
      (192 ≤ r.toNat → bandOf r = .fault ∧ faultKindOf r = some .openCircuit)) ∧
  (∀ (s : State) (w : Readings), s.running = true → s.ptu.walls.length = 5 →
      let u := s.settlesTaken
      u.running = true ∧ u.ptu.walls.length = 5 ∧ (MarkLaws s → ∀ x ∈ u.ptu.walls, x.expired = false) ∧
      exec (.wallMeasurement w) s = exec (.wallMeasurement w) u) ∧
  ∀ (s : State) (w : Readings), s.running = true → s.ptu.walls.length = 5 →
      (∀ x ∈ s.ptu.walls, x.expired = false) →
      ∃ t, exec (.wallMeasurement w) s = .next t ∧ t = { s with ptu := { s.ptu with walls := t.ptu.walls } } ∧
        ∀ k, 1 ≤ k → k ≤ 5 →
          let x := s.wall k
          let y := t.wall k
          let c := bandOf (readingOf w k)
          y = { x with lastReading := readingOf w k, timer := y.timer, expired := y.expired } ∧
          (x.timer = none → c = x.settled → y.timer = none ∧ y.expired = false) ∧
          (x.timer = none → c ≠ x.settled → y.timer = some ⟨c, 0⟩ ∧ y.expired = false) ∧
          (∀ m, x.timer = some m → c = m.candidate → y.timer = some ⟨c, m.count + 1⟩ ∧
            (y.expired = true ↔ 20 * x.set.settleTime ≤ m.count + 1)) ∧
          (∀ m, x.timer = some m → c ≠ m.candidate → c = x.settled → y.timer = none ∧ y.expired = false) ∧
          (∀ m, x.timer = some m → c ≠ m.candidate → c ≠ x.settled → y.timer = some ⟨c, 0⟩ ∧ y.expired = false)

/-- A settle that expires: the candidate becomes the settled state with its fault kind, the timer is idle, WALL_SENSOR and,
where the wall has become FAULT, WALL_FAULT with its fault kind are sent (R7), and then the requested join, the effective
target and the conflict flag are worked out again, with WALL_CONFLICT and the sequencer's receiving (R8, R9, R10). The event is
taken while the mark of the expiry stands; where none stands it changes nothing (log 4). -/
def Obligations.SettleExpiryTakesTheCandidate : Prop :=
  (∀ (s : State) (k : Nat), 1 ≤ k → k ≤ 5 → ((s.wall k).expired = false ∨ (s.wall k).timer = none) →
    exec (.settleExpiry k) s = .next s) ∧
  ∀ (s : State) (k : Nat) (m : SettleTimer), s.running = true → s.ptu.walls.length = 5 → 1 ≤ k → k ≤ 5 →
    (s.wall k).timer = some m → (s.wall k).expired = true →
    ∃ u : State, exec (.settleExpiry k) s = .next u ∧ SameOutsideHall s u ∧ u.ptu.segments = s.ptu.segments ∧
      let w := s.wall k
      let v := u.wall k
      let sensed := s.ctp.notify (.wallSensor k w.settled m.candidate w.lastReading)
      WallChecked s (match v.faultKind with
        | some f => sensed.notify (.wallFault k f w.lastReading)
        | none => sensed) k u ∧
      v.settled = m.candidate ∧ v.timer = none ∧ v.expired = false ∧
      v.faultKind = (if m.candidate = .fault then faultKindOf w.lastReading else none) ∧
      v.set = w.set ∧ v.lastReading = w.lastReading ∧ v.current = w.current ∧
      v.requested = (if w.set.policy = .held then w.set.held else match m.candidate with
        | .opened => .joined
        | .closed => .split
        | .fault => w.requested) ∧
      (s.ctp.mask.getLsbD 1 = true → s.ctp.notices.length < 56 →
        ∃ l, u.ctp.notices = s.ctp.notices ++ .wallSensor k w.settled m.candidate w.lastReading :: l)

/-- The sequencer receives a target vector that differs from the current joins: FADE_OUT with every affected room DOWN and no
other, a room that leaves the affected set going UP from its position, K captured from IDLE alone, and REGROUP_BEGUN with its
occasion; one that equals them during a fade-out cancels the regroup and turns every falling room UP (R28 to R32, R38). One
that equals them with no regroup on its way out, or with the affected set empty already, changes the stored vector alone (log
36). Whatever vector it is, a remap whose condition held and an end of the fades that was found are withdrawn, so that each comes
if, and when, its condition holds at a later audio frame (R33, R37; the marks are the model's, log 4); the fade time stays. -/
def Obligations.TargetVectorIsReceived : Prop :=
  ∀ s : State,
    let t := s.receiveTargets
    let affected := roomsNotIn (mapOf s.joins) (mapOf s.wallTargets)
    t.ptu.walls = s.ptu.walls ∧ t.ptu.segments = s.ptu.segments ∧ t.ptu.targets = s.wallTargets ∧
    t.ptu.remapDue = false ∧ t.ptu.fadeDone = false ∧ t.ptu.fadeTime = s.ptu.fadeTime ∧
    SameOutsideHall s t ∧
    t.ptu.rooms = (s.ptu.rooms.map fun r => { r with
      position := if s.wallTargets ≠ s.joins ∧ s.ptu.seq = .idle then t.ptu.k else r.position
      direction := if r.lead ∈ t.ptu.affected then .down else if r.direction = .down then .up else r.direction }) ∧
    t.ptu.affected = affected ∧
    (s.wallTargets = s.joins → t.ptu.seq = s.ptu.seq ∧ t.ptu.k = s.ptu.k ∧ affected = []) ∧
    (s.wallTargets = s.joins → (s.ptu.seq ≠ .fadeOut ∨ s.ptu.affected = []) → t.ctp = s.ctp) ∧
    (s.wallTargets ≠ s.joins →
      t.ptu.seq = .fadeOut ∧ t.ptu.affected = affected ∧
      t.ptu.k = (if s.ptu.seq = .idle then s.ptu.fadeTime * 48 else s.ptu.k) ∧
      (∀ r ∈ t.ptu.rooms, r.direction = .down ↔ r.lead ∈ affected) ∧
      (s.ptu.seq ≠ .idle → t.ptu.rooms.map (·.position) = s.ptu.rooms.map (·.position)) ∧
      t.ctp = s.ctp.notify (.regroupBegun
        (match s.ptu.seq with
          | .idle => .new
          | .fadeIn => .duringFadeIn
          | .fadeOut => if s.ptu.affected = [] then .afterCancel else .revised)
        (mapOf s.joins) (mapOf s.wallTargets) affected t.ptu.k)) ∧
    (s.wallTargets = s.joins → s.ptu.seq = .fadeOut → s.ptu.affected ≠ [] →
      t.ptu.seq = .fadeOut ∧ t.ptu.affected = [] ∧ (∀ r ∈ t.ptu.rooms, r.direction ≠ .down) ∧
      t.ptu.k = s.ptu.k ∧ t.ptu.rooms.map (·.position) = s.ptu.rooms.map (·.position) ∧
      t.ctp = s.ctp.notify (.regroupCancelled (mapOf s.joins) (mapOf s.ptu.targets)
        ((s.ptu.rooms.filter fun r => r.direction == .down).map (·.lead))))

/-- REMAP: the current joins become the effective targets, an unchanged room keeps its record and a new one starts at position
0 going UP, the affected set empties, the sequencer enters FADE_IN and REGROUP_DONE comes last (R33, R34, R36). At the floor
of each new room priority holds or is off by its holders, the delegates above its limit are closed youngest first and, in
QUEUED mode, return to its queue while a request entry is free (R107), and the queue is emptied where its mode is not QUEUED;
the other rooms stay; the advance rule follows, and the new rooms await their timer checks (R111, R112, R122). In the
languages desks of booths newly parked go off, a B output newly SHADOW is closed (in a booth not in service too, log 51), and
relay and listen selections outside their room are reset (R150). A new room takes its coefficient set and a clear clip record
(R161). The notices come in the order of these steps, and REGROUP_DONE last; the other settings of the port stay. Of every
seat the settings, unit, text, miss count, flash and record sent stay, and its talk total but for the closures; the pins and
the queue of what is waiting stay. FADE_COMPLETE makes the sequencer IDLE where the last moving room has become STEADY, and
changes nothing else (R37). Both are taken while the mark of the audio frame that found their condition stands (log 4); a
REMAP that finds timer checks of the remap before still due takes them first (log 5). The tables have their sizes, as every step
keeps them (EveryStepKeepsSizesAndRanges): five walls have no map in which a seat stands outside the six segments. -/
def Obligations.RemapAndFadeCompleteAct : Prop :=
  (∀ s : State, s.running = true → (s.ptu.remapDue = false ∨ s.mxe.begun = true) → exec .remap s = .next s) ∧
  (∀ s : State, s.running = true → s.ptu.remapDue = true → s.mxe.begun = false →
      let u := s.checksTaken
      u.running = true ∧ u.ptu = s.ptu ∧ u.mxe = s.mxe ∧ u.flc.checksDue = [] ∧ exec .remap s = exec .remap u) ∧
  (∀ s : State, TablesSized s → s.running = true → s.ptu.remapDue = true → s.mxe.begun = false → s.flc.checksDue = [] →
      let newMap := mapOf s.wallTargets
      let newRooms := roomsNotIn newMap (mapOf s.joins)
      ∃ t, exec .remap s = .next t ∧ t.joins = s.wallTargets ∧ t.ptu.seq = .fadeIn ∧ t.ptu.affected = [] ∧
        t.ptu.remapDue = false ∧ t.ptu.k = s.ptu.k ∧ t.ptu.segments = s.ptu.segments ∧
        t.ptu.fadeTime = s.ptu.fadeTime ∧
        t.ptu.rooms = (newMap.map fun r =>
          if r ∈ mapOf s.joins then s.room r.1 else { lead := r.1, last := r.2, position := 0, direction := .up }) ∧
        t.flc.checksWaiting = newRooms ∧ t.slc.lines = s.slc.lines ∧ t.sts = s.sts ∧ t.lgr = s.lgr ∧
        (t.powered = s.powered ∧ t.resetLow = s.resetLow ∧ t.started = s.started ∧ t.pending = s.pending) ∧
        (∀ n, t.seat n = { s.seat n with
            talkTotal := (t.seat n).talkTotal, listen := (t.seat n).listen, desk := (t.seat n).desk } ∧
          (s.speaker n = none → (t.seat n).talkTotal = (s.seat n).talkTotal)) ∧
        t.mxe = { s.mxe with rooms := t.mxe.rooms } ∧
        t.mxe.rooms = (newMap.map fun (r : Nat × Nat) =>
          let x := t.settings r.1
          if r ∈ mapOf s.joins then s.roomMix r.1
          else ({ lead := r.1, last := r.2, nom := x.nom, gain := x.gain, autoFloorGain := x.autoFloorGain
                  clip := { latch := false, count := 0 } } : RoomMix)) ∧
        (∃ c : Ctp, c.replies = s.ctp.replies ∧ c.mask = s.ctp.mask ∧ c.attn = s.ctp.attn ∧ c.period = s.ctp.period ∧
          c.autonomous = s.ctp.autonomous ∧ c.transfer = s.ctp.transfer ∧ c.absenceFrames = s.ctp.absenceFrames ∧
          t.ctp = c.notify (.regroupDone (mapOf s.joins) newMap newRooms s.ptu.k)) ∧
        let a : State := { s with ptu := { s.ptu with walls := s.ptu.walls.map fun w => { w with current := w.target } } }
        ((s.flc.speakers.map (·.seat)).Nodup →
          ∃ f : State, t.flc = f.advance.flc ∧ t.stamp = f.advance.stamp ∧
            SameOutsideFloor { s with ptu := { t.ptu with seq := s.ptu.seq } } f ∧
            f.flc.holders = s.flc.holders ∧
            (∀ lead ∈ newRooms,
              let x := a.settings lead
              let held := a.holdersIn lead ≠ []
              (f.delegatesIn lead).map (·.seat) = (if held ∧ x.priorityAction = .closeAll then []
                else ((a.delegatesIn lead).take x.limit).map (·.seat)) ∧
              (¬held → ∀ e ∈ f.speakersIn lead, e.muted = false) ∧
              (held → ∀ e ∈ f.delegatesIn lead, e.muted = true) ∧
              ((x.mode ≠ .queued ∨ (held ∧ x.priorityAction = .closeAll)) → f.queueIn lead = []) ∧
              (x.mode = .queued → (¬held ∨ x.priorityAction = .muteOnly) →
                (∀ q ∈ a.queueIn lead, q ∈ f.queueIn lead) ∧
                (s.flc.queue.length + s.flc.speakers.length ≤ 96 →
                  ∀ e ∈ (a.delegatesIn lead).drop x.limit, ⟨e.seat, .returned, e.stamp⟩ ∈ f.queueIn lead))) ∧
            ∀ lead ∈ a.leads, lead ∉ newRooms →
              f.speakersIn lead = s.speakersIn lead ∧ f.queueIn lead = s.queueIn lead) ∧
        (let moved : State := { s with
            ptu := { t.ptu with seq := s.ptu.seq }
            flc := { s.flc with
              speakers := s.flc.speakers.map fun e =>
                if newRooms.any fun lead => a.inRoom lead e.seat then
                  { e with oldLimit := some (s.settings (s.seatRoomCode e.seat)).speechLimit }
                else e } }
          let prior := newRooms.foldl (fun (v : State) lead =>
            let held := v.holdersIn lead
            let told := v.notify (.priorityOn lead held)
            if held = [] then v.mapSpeakers fun e => if v.inRoom lead e.seat then { e with muted := false } else e
            else match (v.settings lead).priorityAction with
              | .muteOnly => told.mapSpeakers fun e =>
                if v.inRoom lead e.seat && e.kind == .delegate then { e with muted := true, secondDue := false } else e
              | .closeAll => (v.queueIn lead).foldl (fun w q => w.removeRequest q.seat .priority)
                  ((v.delegatesIn lead).foldl (fun w e => w.closeMic e.seat .priority) told)) moved
          let limited := newRooms.foldl (fun (v : State) lead =>
            let excess := (v.delegatesIn lead).drop (v.settings lead).limit
            let closed := excess.reverse.foldl (fun w e => w.closeMic e.seat .regroupLimit) v
            let free := 96 - v.flc.queue.length
            if (v.settings lead).mode = .queued then
              (excess.drop free).foldl (fun w e => w.notify (.requestDropped e.seat lead .regroupLimit))
                ((excess.take free).foldl (fun w e => w.addRequest e.seat .returned e.stamp) closed)
            else closed) prior
          let emptied := newRooms.foldl (fun (v : State) lead =>
            if (v.settings lead).mode = .queued then v
            else (v.queueIn lead).foldl (fun w q => w.removeRequest q.seat .mode) v) limited
          let g := State.advance { emptied with flc := { emptied.flc with checksWaiting := newRooms } }
          let languages := a.roleChanges s ++ ((List.range' 1 16).flatMap fun b => a.parkingNotices s b) ++
            (a.relayLosses fun n =>
              let c := (s.seat n).desk.input
              a.channelRoom c != a.boothRoom ((s.seat n).set.booth.getD 0) || (a.role c).isShadow) ++
            a.listenResets fun n => decide (a.seatRoom n ≠ some (a.channelRoom (s.seat n).listen))
          t.flc = g.flc ∧ t.stamp = g.stamp ∧ (∀ n, (t.seat n).talkTotal = (g.seat n).talkTotal) ∧ (DeskLaws s → t.ctp =
            (languages ++ [Notice.regroupDone (mapOf s.joins) newMap newRooms s.ptu.k]).foldl Ctp.notify g.ctp)) ∧
        (DeskLaws s → ∀ n, n ≤ 255 →
          let y := s.seat n
          (t.seat n).listen = (if a.seatRoom n = some (a.channelRoom y.listen) then y.listen else 0) ∧
          (y.set.booth = none → (t.seat n).desk = y.desk) ∧
          ∀ b, y.set.booth = some b → 1 ≤ b → b ≤ 16 →
            let parks := a.parked b = true ∧ s.parked b = false
            let closes := (a.role (s.booth b).b).isShadow = true ∧ (s.role (s.booth b).b).isShadow = false
            let lost := a.channelRoom y.desk.input ≠ a.boothRoom b ∨ (a.role y.desk.input).isShadow = true
            (t.seat n).desk.live = (y.desk.live && !decide (parks ∨ (closes ∧ y.desk.output = .b))) ∧
            (t.seat n).desk.output = (if closes then .a else y.desk.output) ∧
            (t.seat n).desk.input = (if lost then 0 else y.desk.input))) ∧
  ∀ s : State, s.running = true →
      (s.ptu.fadeDone = true →
        exec .fadeComplete s = .next { s with ptu := { s.ptu with seq := .idle, fadeDone := false } }) ∧
      (s.ptu.fadeDone = false → exec .fadeComplete s = .next s)

/-! ### Floor -/

/-- A floor command that names a seat is checked in the order of R97 before its own conditions; a refused command leaves
the floor records as they were and starts no flash. -/
def Obligations.FloorChecksComeInOrder : Prop :=
  ∀ (s : State) (tag hi lo : Byte), Accepts s 1 →
    let n := hi.toNat * 256 + lo.toNat
    let u := s.heard
    ∀ x ∈ [(Instr.micOpen tag [hi, lo], 0x30#8, [Kind.delegate, .chair], true),
        (.micClose tag [hi, lo], 0x31#8, [.delegate, .chair], false),
        (.requestAdd tag [hi, lo], 0x33#8, [.delegate], true),
        (.requestRemove tag [hi, lo], 0x34#8, [.delegate], false)],
      let refused := fun code => exec x.1 s = .next (u.replied x.2.1 tag code)
      (255 < n → refused .outOfRange) ∧
      (n ≤ 255 → u.seatActive n = false → refused .lineDown) ∧
      (n ≤ 255 → u.seatActive n = true → (u.seat n).kind = none → refused .notFound) ∧
      (∀ k, SeatInService u n k → k ∉ x.2.2.1 → refused .wrongState) ∧
      (∀ k, SeatInService u n k → k ∈ x.2.2.1 → x.2.2.2 = true → u.placement n = none → refused .notPlaced)

/-- The procedures every path of the floor uses: opening a microphone (R84, with the timer check of the open, R117), closing
one (R85, R123), adding and removing a request (R86), and refusing a press (R87, R69). The flash stands in audio frames (log
7). -/
def Obligations.FloorProceduresAct : Prop :=
  ∀ (s : State) (n : Nat),
    let lead := s.seatRoomCode n
    (∀ (k : Kind) (o : OpenOrigin), s.speaker n = none →
      let t := s.openMic n k o
      SameOutsideFloor s t ∧ t.slc = s.slc ∧ t.stamp = nextStamp s.stamp ∧
      t.flc = { s.flc with speakers := s.flc.speakers ++ [s.openedEntry n k o] } ∧
      t = (({ s with
        stamp := nextStamp s.stamp
        flc := { s.flc with speakers := s.flc.speakers ++ [{
          seat := n, kind := k, stamp := nextStamp s.stamp, seconds := 0, frames := 0, extension := 0, muted := false
          warned := false, byPriority := decide (o = .priority), secondDue := false, oldLimit := none }] } } : State).notify
        (.micOpened n lead k o)).timerCheck n false ∧
      (s.ctp.mask.getLsbD 3 = true → s.ctp.notices.length < 56 →
        ∃ l, t.ctp.notices = s.ctp.notices ++ .micOpened n lead k o :: l)) ∧
    (∀ (e : Speaker) (c : CloseCause), s.speaker n = some e → n < s.slc.seats.length →
      let t := s.closeMic n c
      t = { s with slc := t.slc, flc := t.flc, ctp := s.ctp.notify (.micClosed n lead e.kind c e.seconds) } ∧
      t.flc = { s.flc with speakers := s.flc.speakers.filter fun x => x.seat != n } ∧ t.slc.lines = s.slc.lines ∧
      t.seat n = { s.seat n with talkTotal := min 16777215 ((s.seat n).talkTotal + e.seconds) } ∧
      ∀ m, m ≠ n → t.seat m = s.seat m) ∧
    (∀ (c : RequestClass) (x : Stamp), s.request n = none → s.seatRoom n = some lead →
      let t := s.addRequest n c x
      t.flc = { s.flc with queue := insertBefore Request.before ⟨n, c, x⟩ s.flc.queue } ∧
      ∃ place, 1 ≤ place ∧ (t.queueIn lead)[place - 1]? = some ⟨n, c, x⟩ ∧
        t = { s with flc := t.flc, ctp := s.ctp.notify (.requestAdded n lead c place) }) ∧
    (∀ (q : Request) (c : RemovalCause), s.request n = some q →
      s.removeRequest n c = { s with
        flc := { s.flc with queue := s.flc.queue.filter fun x => x.seat != n }
        ctp := s.ctp.notify (.requestRemoved n lead c) }) ∧
    (∀ r : ResultCode, n < s.slc.seats.length →
      let t := s.refusePress n r
      t = { s with slc := t.slc, ctp := s.ctp.notify (.micRefused n lead r) } ∧ t.slc.lines = s.slc.lines ∧
      t.seat n = { s.seat n with flash := some 96000 } ∧ ∀ m, m ≠ n → t.seat m = s.seat m)

/-- The advance rule (R95): while a slot is free, the first request by class and stamp whose room is eligible (R94) is granted,
and the rule stops when no slot is free or no room is eligible. -/
def Obligations.AdvanceRuleGrants : Prop :=
  ∀ s : State,
    SameOutsideFloor s s.advance ∧ s.advance.flc.holders = s.flc.holders ∧
    (s.pool ≤ s.openCount → s.advance = s) ∧
    ((∀ q ∈ s.flc.queue, s.eligible (s.seatRoomCode q.seat) = false) → s.advance = s) ∧
    (∀ q, s.openCount < s.pool → (s.flc.queue.find? fun x => s.eligible (s.seatRoomCode x.seat)) = some q →
      s.advance = (((s.removeRequest q.seat .granted).openMic q.seat .delegate .granted)).advance) ∧
    (s.advance.pool ≤ s.advance.openCount ∨
      ∀ q ∈ s.advance.flc.queue, s.advance.eligible (s.advance.seatRoomCode q.seat) = false) ∧
    ∀ lead, s.eligible lead = true ↔ (s.settings lead).mode = .queued ∧
      ((s.settings lead).autoAdvance = true ∨ s.ctp.autonomous = true) ∧ s.holdersIn lead = [] ∧
      s.delegateCount lead < (s.settings lead).limit ∧ s.queueIn lead ≠ []

/-- MIC_OPEN, MIC_CLOSE and ROOM_CLOSE_ALL, in the order of their conditions (R98, R99). -/
def Obligations.HostOpensAndCloses : Prop :=
  ∀ (s : State) (tag hi lo : Byte), Accepts s 1 →
    let n := hi.toNat * 256 + lo.toNat
    let u := s.heard
    let lead := u.seatRoomCode n
    let full := u.pool ≤ u.openCount
    let opens := fun code => exec (.micOpen tag [hi, lo]) s = .next (u.replied 0x30#8 tag code)
    (∀ k, (k = .delegate ∨ k = .chair) → SeatInService u n k → (u.placement n).isSome →
      ((u.speaker n).isSome → opens .ok) ∧
      (u.speaker n = none → k = .delegate → u.holdersIn lead ≠ [] → opens .priorityHeld) ∧
      (u.speaker n = none → k = .delegate → u.holdersIn lead = [] → (u.settings lead).limit ≤ u.delegateCount lead →
        opens .limitReached) ∧
      (u.speaker n = none →
        (k = .chair ∨ (u.holdersIn lead = [] ∧ u.delegateCount lead < (u.settings lead).limit)) →
        (full → opens .poolFull) ∧
        (¬full → exec (.micOpen tag [hi, lo]) s =
          .next ((((u.removeRequest n .granted).openMic n k .host).advance).replied 0x30#8 tag .ok)))) ∧
    (∀ k, (k = .delegate ∨ k = .chair) → SeatInService u n k →
      ((u.speaker n).isSome → exec (.micClose tag [hi, lo]) s = .next ((u.closeMic n .host).advance.replied 0x31#8 tag .ok)) ∧
      (u.speaker n = none → exec (.micClose tag [hi, lo]) s = .next (u.replied 0x31#8 tag .ok))) ∧
    ((lo.toNat = 0 ∨ 6 < lo.toNat) → exec (.roomCloseAll tag [lo]) s = .next (u.replied 0x32#8 tag .outOfRange)) ∧
    (1 ≤ lo.toNat → lo.toNat ≤ 6 →
      let room := u.roomOf lo.toNat
      ∃ t : State, exec (.roomCloseAll tag [lo]) s = .next (t.advance.replied 0x32#8 tag .ok) ∧
        t = u.closeMics ((u.delegatesIn room).map (·.seat)) .host ∧ t.delegatesIn room = [] ∧
        t.flc = { u.flc with speakers := t.flc.speakers } ∧
        (∀ e ∈ u.flc.speakers, u.inRoom room e.seat = false → e ∈ t.flc.speakers) ∧ ∀ e ∈ t.flc.speakers, e ∈ u.flc.speakers)

/-- REQUEST_ADD, REQUEST_REMOVE, QUEUE_CLEAR and GRANT_NEXT, in the order of their conditions (R100, R101, R102). QUEUE_CLEAR
removes the room's requests in queue order, with REQUEST_REMOVED and cause CLEARED of each (R101). -/
def Obligations.HostServesTheQueue : Prop :=
  ∀ (s : State) (tag hi lo : Byte), Accepts s 1 →
    let n := hi.toNat * 256 + lo.toNat
    let u := s.heard
    let adds := fun code => exec (.requestAdd tag [hi, lo]) s = .next (u.replied 0x33#8 tag code)
    let grants := fun code => exec (.grantNext tag [lo]) s = .next (u.replied 0x35#8 tag code)
    (SeatInService u n .delegate → (u.placement n).isSome →
      let queued := (u.settings (u.seatRoomCode n)).mode = .queued
      (¬queued → adds .wrongState) ∧
      (queued → (u.speaker n).isSome → adds .wrongState) ∧
      (queued → u.speaker n = none → (u.request n).isSome → adds .ok) ∧
      (queued → u.speaker n = none → u.request n = none → 96 ≤ u.flc.queue.length → adds .queueFull) ∧
      (queued → u.speaker n = none → u.request n = none → u.flc.queue.length < 96 →
        exec (.requestAdd tag [hi, lo]) s =
          .next ((u.issueStamp.addRequest n .normal (nextStamp u.stamp)).advance.replied 0x33#8 tag .ok))) ∧
    (SeatInService u n .delegate →
      ((u.request n).isSome →
        exec (.requestRemove tag [hi, lo]) s = .next ((u.removeRequest n .host).advance.replied 0x34#8 tag .ok)) ∧
      (u.request n = none → exec (.requestRemove tag [hi, lo]) s = .next (u.replied 0x34#8 tag .notFound))) ∧
    ((lo.toNat = 0 ∨ 6 < lo.toNat) →
      exec (.queueClear tag [lo]) s = .next (u.replied 0x36#8 tag .outOfRange) ∧ grants .outOfRange) ∧
    (1 ≤ lo.toNat → lo.toNat ≤ 6 →
      let room := u.roomOf lo.toNat
      let limit := (u.settings room).limit
      (∃ t : State, exec (.queueClear tag [lo]) s = .next (t.advance.replied 0x36#8 tag .ok) ∧
        t = { u with flc := { u.flc with queue := u.flc.queue.filter fun q => !u.inRoom room q.seat }, ctp := t.ctp } ∧
        t = (u.queueIn room).foldl (fun v q => v.removeRequest q.seat .cleared) u ∧
        t.ctp.replies = u.ctp.replies ∧ (u.queueIn room = [] → t = u)) ∧
      ((u.settings room).mode ≠ .queued → grants .wrongState) ∧
      ((u.settings room).mode = .queued →
        (u.queueIn room = [] → grants .notFound) ∧
        ∀ q qs, u.queueIn room = q :: qs →
          (u.holdersIn room ≠ [] → grants .priorityHeld) ∧
          (u.holdersIn room = [] → limit ≤ u.delegateCount room → grants .limitReached) ∧
          (u.holdersIn room = [] → u.delegateCount room < limit → u.pool ≤ u.openCount → grants .poolFull) ∧
          (u.holdersIn room = [] → u.delegateCount room < limit → u.openCount < u.pool →
            exec (.grantNext tag [lo]) s =
              .next (((u.removeRequest q.seat .granted).openMic q.seat .delegate .granted).advance.queueReplies
                [{ kind := 0xB5#8, tag := tag, payload := [0#8, BitVec.ofNat 8 (q.seat / 256), BitVec.ofNat 8 q.seat] }]))))

/-- SPEECH_EXTEND: the checks of R120 in their order, each refusal leaving the state as it was; for an open microphone it adds
the seconds, clamped to 1..600, up to 3600, answers with the extension and the allowance, and makes the timer check (R120);
TALK_TOTAL_CLEAR clears the talk totals of its scope (R124). Whether the expiry held before the command is judged by the
settings of the entry's present room, between a remap and its timer check too (log 45). -/
def Obligations.SpeechExtendAndTalkTotalClear : Prop :=
  ∀ (s : State) (tag scope hi lo s1 s0 : Byte), Accepts s 1 →
    let n := hi.toNat * 256 + lo.toNat
    let u := s.heard
    let seconds := s1.toNat * 256 + s0.toNat
    let given := if seconds = 0 then 1 else if 600 < seconds then 600 else seconds
    let limit := (u.settings (u.seatRoomCode n)).speechLimit
    let answer := fun (t : State) (x : Nat) => t.queueReplies [{ kind := 0xB8#8, tag := tag, payload :=
      [0#8, BitVec.ofNat 8 (x / 256), BitVec.ofNat 8 x, BitVec.ofNat 8 ((limit + x) / 256), BitVec.ofNat 8 (limit + x)] }]
    let refused := fun code => exec (.speechExtend tag [hi, lo, s1, s0]) s = .next (u.replied 0x38#8 tag code)
    (255 < n → refused .outOfRange) ∧
    (n ≤ 255 → u.seatActive n = false → refused .lineDown) ∧
    (n ≤ 255 → u.seatActive n = true → (u.seat n).kind = none → refused .notFound) ∧
    (∀ k, SeatInService u n k → k ≠ .delegate → refused .wrongState) ∧
    (SeatInService u n .delegate →
      (u.speaker n = none → refused .notFound) ∧
      ∀ e, u.speaker n = some e →
        (3600 ≤ e.extension → exec (.speechExtend tag [hi, lo, s1, s0]) s = .next (answer u e.extension)) ∧
        (e.extension < 3600 →
          let x := min 3600 (e.extension + given)
          exec (.speechExtend tag [hi, lo, s1, s0]) s = .next (answer
            (((u.setSpeaker n fun y => { y with extension := x }).timerCheck n
              (decide (limit ≠ 0 ∧ limit + e.extension ≤ e.seconds))).advance) x))) ∧
    ((1 < scope.toNat ∨ (scope.toNat = 0 ∧ 255 < n)) →
      exec (.talkTotalClear tag [scope, hi, lo]) s = .next (u.replied 0x39#8 tag .outOfRange)) ∧
    ((scope.toNat = 1 ∨ (scope.toNat = 0 ∧ n ≤ 255)) →
      ∃ t : State, exec (.talkTotalClear tag [scope, hi, lo]) s = .next (t.replied 0x39#8 tag .ok) ∧
        t = { u with slc := { u.slc with seats := t.slc.seats } } ∧
        ∀ m, m ≤ 255 → t.seat m =
          { u.seat m with talkTotal := if scope.toNat = 1 ∨ m = n then 0 else (u.seat m).talkTotal })

/-- A TALK of a placed delegate on an ACTIVE line: its own microphone and request first, then the floor mode by Table 5-2, with
the displacement of R89; the advance rule comes last (R88, R89, R96). -/
def Obligations.DelegateTalkFollowsTheMode : Prop :=
  ∀ (s : State) (n g : Nat), s.running = true → SeatInService s n .delegate → s.placement n = some g →
    let lead := s.roomOf g
    let x := s.settings lead
    let held := s.holdersIn lead ≠ []
    let below := s.delegateCount lead < x.limit
    let free := s.openCount < s.pool
    let takes := fun t : State => exec (.talk n) s = .next t.advance
    ((s.speaker n).isSome → x.delegateClose = true → takes (s.closeMic n .seat)) ∧
    ((s.speaker n).isSome → x.delegateClose = false → takes s) ∧
    (s.speaker n = none → (s.request n).isSome → takes (s.removeRequest n .seatCancel)) ∧
    (s.speaker n = none → s.request n = none →
      (x.mode = .queued → s.flc.queue.length < 96 → takes (s.issueStamp.addRequest n .normal (nextStamp s.stamp))) ∧
      (x.mode = .queued → 96 ≤ s.flc.queue.length → takes (s.refusePress n .queueFull)) ∧
      (x.mode ≠ .queued → held → takes (s.refusePress n .priorityHeld)) ∧
      (x.mode ≠ .queued → ¬held → below → free → takes (s.openMic n .delegate .press)) ∧
      (x.mode = .direct → ¬held → ¬below → takes (s.refusePress n .limitReached)) ∧
      (x.mode = .direct → ¬held → below → ¬free → takes (s.refusePress n .poolFull)) ∧
      (x.mode = .override → ¬held → (¬below ∨ ¬free) → ∀ e es, s.delegatesIn lead = e :: es →
        takes ((s.closeMic e.seat .override).openMic n .delegate .override)) ∧
      (x.mode = .override → ¬held → below → ¬free → s.delegatesIn lead = [] → takes (s.refusePress n .poolFull)))

/-- A placed chair's TALK toggles its microphone (R90); its PRIORITY_DOWN joins the holder set and, where that was empty, begins
priority with the room's action, then opens the chair's microphone (R91); its PRIORITY_UP leaves the set and ends priority
where the set becomes empty (R92, R93). A muted timer is paused (R119), so that a second of it that has come due and was not
taken is dropped with the model's mark of it (log 4). -/
def Obligations.ChairTalkAndPriority : Prop :=
  ∀ (s : State) (n g : Nat), s.running = true → SeatInService s n .chair → s.placement n = some g →
    let lead := s.roomOf g
    let free := s.openCount < s.pool
    let joined := s.setHolders (insertBefore (fun x y => decide (x < y)) n s.flc.holders)
    let begun := (joined.notify (.priorityOn lead [n])).priorityAction lead
    let own := fun u : State => if (u.speaker n).isSome then u
      else if u.openCount < u.pool then u.openMic n .chair .priority else u.refusePress n .poolFull
    let left := s.setHolders (s.flc.holders.filter (· != n))
    let closed := match s.speaker n with
      | some e => if e.byPriority then left.closeMic n .seat else left
      | none => left
    ((s.speaker n).isSome → exec (.talk n) s = .next (s.closeMic n .seat).advance) ∧
    (s.speaker n = none → free → exec (.talk n) s = .next (s.openMic n .chair .press).advance) ∧
    (s.speaker n = none → ¬free → exec (.talk n) s = .next (s.refusePress n .poolFull).advance) ∧
    (n ∈ s.flc.holders → exec (.priorityDown n) s = .next s.advance) ∧
    (n ∉ s.flc.holders → s.holdersIn lead ≠ [] → exec (.priorityDown n) s = .next (own joined).advance) ∧
    (n ∉ s.flc.holders → s.holdersIn lead = [] → exec (.priorityDown n) s = .next (own begun).advance) ∧
    ((s.settings lead).priorityAction = .muteOnly → begun.flc.queue = s.flc.queue ∧
      begun.flc.speakers = s.flc.speakers.map fun e =>
        if s.inRoom lead e.seat ∧ e.kind = .delegate then { e with muted := true, secondDue := false } else e) ∧
    ((s.settings lead).priorityAction = .closeAll → begun.delegatesIn lead = [] ∧ begun.queueIn lead = [] ∧
      (∀ e ∈ s.flc.speakers, s.inRoom lead e.seat = false → e ∈ begun.flc.speakers) ∧
      ∀ q ∈ s.flc.queue, s.inRoom lead q.seat = false → q ∈ begun.flc.queue) ∧
    (n ∉ s.flc.holders → exec (.priorityUp n) s = .next s.advance) ∧
    (n ∈ s.flc.holders → closed.holdersIn lead ≠ [] → exec (.priorityUp n) s = .next closed.advance) ∧
    (n ∈ s.flc.holders → closed.holdersIn lead = [] →
      ∃ u : State, exec (.priorityUp n) s = .next u.advance ∧
        u = { closed with flc := u.flc, ctp := closed.ctp.notify (.priorityOff lead n) } ∧
        u.flc = { closed.flc with
          speakers := closed.flc.speakers.map fun e => if s.inRoom lead e.seat then { e with muted := false } else e })

/-- The timer check of an entry against its room's settings in force: the cases of R118 in their order, with the conditions of
R117. -/
def Obligations.TimerCheckActsByCases : Prop :=
  ∀ (s : State) (n : Nat) (e : Speaker) (held : Bool), s.speaker n = some e →
    let room := s.seatRoomCode n
    let x := s.settings room
    let allow := x.speechLimit + e.extension
    let warns := x.speechLimit ≠ 0 ∧ allow - x.warningLead ≤ e.seconds
    let expires := x.speechLimit ≠ 0 ∧ allow ≤ e.seconds
    let flagged := fun b : Bool => s.setSpeaker n fun y => { y with warned := b }
    let u := if warns ∧ e.warned = false then (flagged true).notify (.speechWarning n room e.seconds allow)
      else if ¬warns ∧ e.warned = true then flagged false else s
    let told := u.notify (.speechExpired n room e.seconds allow x.expiryAction)
    (e.kind ≠ .delegate → s.timerCheck n held = s) ∧
    (e.kind = .delegate →
      (¬expires → s.timerCheck n held = u) ∧
      (expires → x.expiryAction = .notify → s.timerCheck n held = if held then u else told) ∧
      (expires → x.expiryAction = .close → s.timerCheck n held = (if held then u else told).closeMic n .speechTime))

/-- SPEECH_SECOND: the entry's frame count returns to 0 and its seconds rise by 1, then its timer check and the advance rule
(R116). REMAP_TIMER_CHECK takes the first room whose check is due: an entry past its allowance under CLOSE is closed, and
every other entry of the room ends with its warned flag as R118 sets it; where new rooms wait for the first audio frame after
their remap, that frame begins with it, so that the check comes at position 1 and before the frame's outputs (R122). Both are
taken while the mark of the audio frame that called them stands (log 4). SPEECH_SECOND judges whether the expiry held before by
the settings of the entry's present room, between a remap and its timer check too (log 45). The frame that begins moves the
times kept in audio frames (log 7), and a room UP at K becomes STEADY (log 12). What came due before that frame is taken before
it, in the order of log 5. -/
def Obligations.SpeechSecondAndRemapTimerCheck : Prop :=
  (∀ (s : State) (n : Nat) (e : Speaker), s.running = true → n ≤ 255 → s.speaker n = some e →
    (e.secondDue = false → exec (.speechSecond n) s = .next s) ∧
    (e.secondDue = true →
      let limit := (s.settings (s.seatRoomCode n)).speechLimit
      exec (.speechSecond n) s = .next ((s.setSpeaker n fun y =>
        { y with frames := 0, seconds := y.seconds + 1, secondDue := false }).timerCheck n
          (decide (limit ≠ 0 ∧ limit + e.extension ≤ e.seconds))).advance)) ∧
  ∀ s : State, s.running = true →
    (s.flc.checksDue = [] → (s.flc.checksWaiting = [] ∨ s.mxe.begun = true) → exec .remapTimerCheck s = .next s) ∧
    (s.flc.checksWaiting ≠ [] → NothingDue s →
      ∃ v : State, FrameBegun s v ∧ exec .remapTimerCheck s = exec .remapTimerCheck v) ∧
    (s.flc.checksDue = [] → s.flc.checksWaiting ≠ [] → s.mxe.begun = false → FloorLaws s →
      let u := s.dueTaken
      u.running = true ∧ NothingDue u ∧ (u.flc.checksWaiting ≠ [] →
        exec .remapTimerCheck s = exec .remapTimerCheck u)) ∧
    (∀ lead rest, s.flc.checksDue = lead :: rest → (s.flc.speakers.map (·.seat)).Nodup →
      let x := s.settings lead
      let expires := fun e : Speaker => x.speechLimit ≠ 0 ∧ x.speechLimit + e.extension ≤ e.seconds
      let warns := fun e : Speaker => x.speechLimit ≠ 0 ∧ x.speechLimit + e.extension - x.warningLead ≤ e.seconds
      ∃ u : State, exec .remapTimerCheck s = .next s.takeCheck ∧ s.takeCheck = u.advance ∧
        (let begun : State := { s with flc := { s.flc with checksDue := rest } }
          let checked := (s.delegatesIn lead).foldl (fun (v : State) e =>
            let old := e.oldLimit.getD x.speechLimit
            v.timerCheck e.seat (decide (old ≠ 0 ∧ old + e.extension ≤ e.seconds))) begun
          u = checked.mapSpeakers fun e => if s.inRoom lead e.seat then { e with oldLimit := none } else e) ∧
        u.flc.checksDue = rest ∧ u.flc.checksWaiting = s.flc.checksWaiting ∧ SameOutsideFloor s u ∧
        u.flc.queue = s.flc.queue ∧ u.flc.holders = s.flc.holders ∧ u.stamp = s.stamp ∧
        u.flc.speakers = (s.flc.speakers.filter fun e => !(s.inRoom lead e.seat && e.kind == .delegate &&
            decide (expires e) && x.expiryAction == .close)).map fun e =>
          if s.inRoom lead e.seat then
            { e with oldLimit := none, warned := if e.kind = .delegate then decide (warns e) else e.warned }
          else e)

/-! ### Audio -/

/-- An audio frame with nothing left due begins: every room moves by one place (R26), the sequencer's conditions are found
(R33, R37), the running speech timers count (R116), and the wake times, the DENIED flashes and the absence count move by one
frame (log 7); a room UP at K becomes STEADY (log 12). The timer checks of the remap before are taken next (R122), each as
REMAP_TIMER_CHECK takes it, and on the state they leave every output and the clip records are computed, while what the frame
before computed leaves the part (R159). A frame that a timer check has begun already is computed alone, once the timer checks
still due have been taken. What came due before a frame is taken before it, as its own rows take it (log 4), in the order of
log 5; nothing is due then. -/
def Obligations.AudioFrameMovesTheState : Prop :=
  ∀ (s : State) (samples : List Sample), s.running = true →
    (NothingDue s →
      ∃ v t : State, FrameBegun s v ∧ exec (.audioFrame samples) s = .next t ∧
        let u := s.flc.checksWaiting.foldl (fun w _ => w.takeCheck) v
        SameOutsideFloor v u ∧ t = (u.computeAudio samples).setBegun false ∧
        t.mxe.leaving = s.mxe.computed ∧ t.mxe.computed = u.mix samples (u.floorBuses samples) ∧
        t.mxe.begun = false ∧ t.mxe.channels = (u.computeAudio samples).mxe.channels ∧
        t.mxe.rooms = (u.computeAudio samples).mxe.rooms ∧ t.flc = u.flc ∧ t.ctp.replies = s.ctp.replies) ∧
    (s.mxe.begun = false → FloorLaws s →
      let u := s.dueTaken
      u.running = true ∧ NothingDue u ∧ exec (.audioFrame samples) s = exec (.audioFrame samples) u) ∧
    (s.mxe.begun = true →
      let u := s.checksTaken
      u.running = true ∧ u.mxe = s.mxe ∧ u.ptu = s.ptu ∧ u.flc.checksDue = [] ∧
        exec (.audioFrame samples) s = exec (.audioFrame samples) u) ∧
    (s.mxe.begun = true → s.flc.checksDue = [] →
      ∃ t, exec (.audioFrame samples) s = .next t ∧ t = { s with mxe := t.mxe, ctp := t.ctp } ∧
        t.ctp = (s.computeAudio samples).ctp ∧
        t.mxe.leaving = s.mxe.computed ∧ t.mxe.computed = s.mix samples (s.floorBuses samples) ∧
        t.mxe.begun = false ∧ t.mxe.channels = (s.computeAudio samples).mxe.channels ∧
        t.mxe.rooms = (s.computeAudio samples).mxe.rooms)

/-- The combined coefficient of a room: the exact product of NOM attenuation (R164), master gain and fade level (R25) over
2^28, rounded to nearest, never above the master gain; equal to it in a STEADY room without NOM attenuation or with at most
one contributor, and 0 at fade position 0 or master gain 0 (R165). The floor bus is the room's sum under that coefficient
(R163, R166). The NOM table has a_0 = 16384 and for n from 1 to 48 the integer nearest to 16384 over the square root of n (Table
8-1). -/
def Obligations.CombinedCoefficientIsExact : Prop :=
  (Config.nomTable.length = 49 ∧ Config.nomTable.getD 0 0 = 16384 ∧ ∀ n, 1 ≤ n → n ≤ 48 →
    let a := Config.nomTable.getD n 0
    0 < a ∧ (2 * a - 1) ^ 2 * n ≤ (2 * 16384) ^ 2 ∧ (2 * 16384) ^ 2 ≤ (2 * a + 1) ^ 2 * n) ∧
  ∀ (s : State) (lead : Nat), 0 < s.ptu.k → (s.room lead).position ≤ s.ptu.k →
    let n := (s.contributors lead).length
    let a := if (s.roomMix lead).nom then Config.nomTable.getD n 2365 else 16384
    let r := (s.roomMix lead).gain.toNat
    let f := 16384 * (s.room lead).position / s.ptu.k
    let c := s.roomCoefficient lead
    c = (a * r * f + 134217728) / 268435456 ∧ a ≤ 16384 ∧ f ≤ 16384 ∧ c ≤ r ∧ c ≤ 65535 ∧
    ((s.room lead).position = s.ptu.k → ((s.roomMix lead).nom = false ∨ n ≤ 1) → c = r) ∧
    ((s.room lead).position = 0 → c = 0) ∧ (r = 0 → c = 0) ∧
    ∀ samples, s.floorBus samples lead = (s.floorSum samples lead * (c : Int) + 134217728) / 268435456

/-- Every output of an audio frame from the records it is computed on (exec of AUDIO_FRAME is tied to this mix by
AudioFrameMovesTheState): the floor bus of each room (R163, R166), the PRIMARY, SHADOW and DORMANT channels (R168 to R170),
and the feeds of segments, monitors, headphones and loudspeakers (R172 to R175, R73). A sample that is not given reads 0 (log
25). -/
def Obligations.OutputsFollowTheRecords : Prop :=
  ∀ (s : State) (samples : List Sample),
    let b := s.floorBuses samples
    let out := s.mix samples b
    let clamp := fun v : Int => if 8388607 < v then 8388607 else if v < -8388608 then -8388608 else v
    let round := fun (x : Int) (g : Nat) => (x * (g : Int) + 8192) / 16384
    let y := busOutput b
    let channel := fun c => out.channels.getD (c - 1) 0
    (∀ lead ∈ s.leads,
      let sum := (((s.speakersIn lead).filter fun e => !e.muted).map fun e =>
        (samples.getD e.seat 0#24).toInt * ((s.seat e.seat).set.trim.toNat : Int)).sum
      y lead = clamp ((sum * (s.roomCoefficient lead : Int) + 134217728) / 268435456)) ∧
    (∀ c, 1 ≤ c → c ≤ 24 →
      (s.role c = .dormant → channel c = 0) ∧
      (∀ p, s.role c = .shadow p → s.role p = .primary ∧ s.sameGroup c p = true ∧ channel c = channel p) ∧
      (s.role c = .primary → s.liveDesk c = none →
        channel c = clamp (round (y (s.channelRoom c)) (s.roomMix (s.channelRoom c)).autoFloorGain.toNat)) ∧
      (∀ n, s.role c = .primary → s.liveDesk c = some n →
        channel c = clamp (round (round (samples.getD n 0#24).toInt (s.seat n).set.trim.toNat)
          (s.roomFade (s.channelRoom c))))) ∧
    (∀ g, 1 ≤ g → g ≤ 6 → out.pa.getD (g - 1) 0 = y (s.roomOf g)) ∧
    (∀ m, (m = 1 ∨ m = 2) →
      (s.monitor m = .none → out.monitors.getD (m - 1) 0 = 0) ∧
      (∀ g, s.monitor m = .floor g → out.monitors.getD (m - 1) 0 = y (s.roomOf g)) ∧
      (∀ c, s.monitor m = .channel c → out.monitors.getD (m - 1) 0 = channel c)) ∧
    ∀ n, n ≤ 255 →
      let floor := match s.placement n with
        | some g => y (s.roomOf g)
        | none => 0
      let present := (s.seat n).unit.isSome ∧ s.seatActive n = true
      let listen := (s.seat n).listen
      let select := (s.seat n).desk.input
      (¬present → out.headphones[n]? = some none ∧ out.loudspeakers[n]? = some none ∧
        out.deskHeadphones[n]? = some none) ∧
      (present →
        out.headphones[n]? = some (some (if listen = 0 then floor else channel listen)) ∧
        out.loudspeakers[n]? = some (some (if (s.speaker n).isSome then 0 else floor)) ∧
        ((s.seat n).kind = some .desk → ∀ d, (s.seat n).set.booth = some d →
          out.deskHeadphones[n]? = some (some (if select = 0 then y (s.boothRoom d) else channel select))) ∧
        (((s.seat n).kind ≠ some .desk ∨ (s.seat n).set.booth = none) → out.deskHeadphones[n]? = some none))

/-- A saturated frame of a room or of a PRIMARY channel sets its clip latch and raises its count, which holds at 65535; every
other clip record stays (R176, R170, R179). CLIP with the source, its number and the polarity goes to the port exactly where the
latch was clear, the rooms in order of leading segment and then the channels by relay depth and number, and nothing else does
(R162, R177). AudioFrameMovesTheState ties exec of AUDIO_FRAME to this computation. -/
def Obligations.SaturationIsRecorded : Prop :=
  ∀ (s : State) (samples : List Sample), s.mxe.rooms.map (·.lead) = s.leads → s.mxe.channels.length = 24 →
    s.relayTooDeep = false →
    let b := s.floorBuses samples
    let t := s.computeAudio samples
    let saturates := fun v : Int => 8388607 < v ∨ v < -8388608
    let hit := fun x : Clip => { latch := true, count := min 65535 (x.count + 1) : Clip }
    t.mxe.leaving = s.mxe.computed ∧ t.mxe.computed = s.mix samples b ∧
    let side := fun v : Int =>
      if 8388607 < v then some Polarity.positive else if v < -8388608 then some .negative else none
    let latched := fun c => (s.mxe.channels.getD (c - 1) clearClip).latch
    let rooms := s.leads.filterMap fun lead =>
      if (s.roomMix lead).clip.latch then none else (side (s.floorBus samples lead)).map (Notice.clip .room lead)
    let channels := [0, 1, 2, 3].flatMap fun d => (List.range' 1 24).filterMap fun c =>
      if s.role c = .primary ∧ s.relayDepth c = d ∧ latched c = false then
        (side (s.primaryValue samples b c)).map (Notice.clip .channel c)
      else none
    t = { s with mxe := t.mxe, ctp := t.ctp } ∧ t.ctp = (rooms ++ channels).foldl Ctp.notify s.ctp ∧
    (∀ lead ∈ s.leads, (t.roomMix lead).gain = (s.roomMix lead).gain ∧
      (saturates (s.floorBus samples lead) → (t.roomMix lead).clip = hit (s.roomMix lead).clip) ∧
      (¬saturates (s.floorBus samples lead) → (t.roomMix lead).clip = (s.roomMix lead).clip)) ∧
    ∀ c, 1 ≤ c → c ≤ 24 →
      let before := s.mxe.channels.getD (c - 1) clearClip
      let after := t.mxe.channels.getD (c - 1) clearClip
      let clipped := s.role c = .primary ∧ saturates (s.primaryValue samples b c)
      (clipped → after = hit before) ∧ (¬clipped → after = before)

/-! ### Lines and seats -/

/-- LINE_POWER, LINE_INDICATORS, SEAT_TRIM and SEAT_TEXT write their settings or refuse in the order of their checks (R56, R76,
R62, R72), and the end of a DENIED flash makes it idle (R69); FLASH_END acts whenever it comes, whatever time remains (log
6). -/
def Obligations.LineAndSeatSettingsAreWritten : Prop :=
  (∀ (s : State) (tag l a b c : Byte), Accepts s 1 → s.heard.slc.lines.length = 4 →
    let u := s.heard
    let n := l.toNat
    ((3 < n ∨ 1 < a.toNat ∨ 1 < b.toNat ∨ 1 < c.toNat) →
      exec (.linePower tag [l, a, b, c]) s = .next (u.replied 0x20#8 tag .outOfRange)) ∧
    (n ≤ 3 → a.toNat ≤ 1 → b.toNat ≤ 1 → c.toNat ≤ 1 →
      ∃ t : State, exec (.linePower tag [l, a, b, c]) s = .next (t.replied 0x20#8 tag .ok) ∧
        t = { u with slc := { u.slc with lines := t.slc.lines } } ∧ (∀ m, m ≠ n → t.line m = u.line m) ∧
        t.line n = { u.line n with set :=
          { powerPolicy := if a.toNat = 0 then .atStart else .onCommand
            wakeOnPress := decide (b.toNat = 1), autoRelight := decide (c.toNat = 1) } }) ∧
    ((3 < n ∨ 1 < a.toNat) → exec (.lineIndicators tag [l, a]) s = .next (u.replied 0x2A#8 tag .outOfRange)) ∧
    (n ≤ 3 → a.toNat ≤ 1 →
      ∃ t : State, exec (.lineIndicators tag [l, a]) s = .next (t.replied 0x2A#8 tag .ok) ∧
        t = { u with slc := { u.slc with lines := t.slc.lines } } ∧ (∀ m, m ≠ n → t.line m = u.line m) ∧
        t.line n = { u.line n with indicators := decide (a.toNat = 1) })) ∧
  (∀ (s : State) (tag hi lo g1 g0 count : Byte) (text : List Byte), Accepts s 1 → s.heard.slc.seats.length = 256 →
    let u := s.heard
    let n := hi.toNat * 256 + lo.toNat
    (255 < n → exec (.seatTrim tag [hi, lo, g1, g0]) s = .next (u.replied 0x27#8 tag .outOfRange)) ∧
    (n ≤ 255 → u.seatActive n = false →
      exec (.seatTrim tag [hi, lo, g1, g0]) s = .next (u.replied 0x27#8 tag .lineDown)) ∧
    (n ≤ 255 → u.seatActive n = true →
      ∃ t : State, exec (.seatTrim tag [hi, lo, g1, g0]) s = .next (t.replied 0x27#8 tag .ok) ∧
        t = { u with slc := { u.slc with seats := t.slc.seats } } ∧ (∀ m, m ≠ n → t.seat m = u.seat m) ∧
        t.seat n = { u.seat n with set := { (u.seat n).set with
          trim := BitVec.ofNat 16 (g1.toNat * 256 + g0.toNat) } }) ∧
    let request := Instr.seatText tag (hi :: lo :: count :: text)
    ((255 < n ∨ 24 < count.toNat) → exec request s = .next (u.replied 0x29#8 tag .outOfRange)) ∧
    (n ≤ 255 → count.toNat ≤ 24 → text.length ≠ count.toNat → exec request s = .next (u.replied 0x29#8 tag .badLength)) ∧
    (n ≤ 255 → count.toNat ≤ 24 → text.length = count.toNat → u.seatActive n = false →
      exec request s = .next (u.replied 0x29#8 tag .lineDown)) ∧
    (n ≤ 255 → count.toNat ≤ 24 → text.length = count.toNat → u.seatActive n = true →
      ∃ t : State, exec request s = .next (t.replied 0x29#8 tag .ok) ∧
        t = { u with slc := { u.slc with seats := t.slc.seats } } ∧ (∀ m, m ≠ n → t.seat m = u.seat m) ∧
        t.seat n = { u.seat n with
          text := if count.toNat = 0 then none
            else some (text.map fun b => if b.toNat < 32 ∨ 126 < b.toNat then 63#8 else b) })) ∧
  ∀ (s : State) (n : Nat), s.running = true → n ≤ 255 → s.slc.seats.length = 256 →
    ∃ t, exec (.flashEnd n) s = .next t ∧ t = { s with slc := { s.slc with seats := t.slc.seats } } ∧
      (∀ m, m ≠ n → t.seat m = s.seat m) ∧ t.seat n = { s.seat n with flash := none }

/-- SEAT_PLACE: its checks in the order of R61; a new placement takes a chair out of its holder set, and where it was the last of
the room the muted flags of the room are cleared, with PRIORITY_OFF of the room and the chair (R109, R93); then the seat stands
at it, the advance rule runs, and a listen selection of another room is reset (R146). A holder leaves its set at every change of
placement (log 14). -/
def Obligations.SeatPlaceActs : Prop :=
  ∀ (s : State) (tag hi lo g : Byte), Accepts s 1 → s.heard.slc.seats.length = 256 →
    let u := s.heard
    let n := hi.toNat * 256 + lo.toNat
    let answers := fun t code => exec (.seatPlace tag [hi, lo, g]) s = .next (State.replied t 0x26#8 tag code)
    let new := if g.toNat = 0 then none else some g.toNat
    ((255 < n ∨ 6 < g.toNat) → answers u .outOfRange) ∧
    (n ≤ 255 → g.toNat ≤ 6 → u.seatActive n = false → answers u .lineDown) ∧
    (n ≤ 255 → g.toNat ≤ 6 → u.seatActive n = true →
      (((u.speaker n).isSome ∨ (u.request n).isSome) → answers u .wrongState) ∧
      (u.speaker n = none → u.request n = none → u.placement n = new → answers u .ok) ∧
      (u.speaker n = none → u.request n = none → u.placement n ≠ new →
        ∃ v t : State, answers t .ok ∧ SameOutsideFloor u v ∧ v.flc.queue = u.flc.queue ∧
          v.flc.holders = u.flc.holders.filter (· != n) ∧
          (n ∉ u.flc.holders → v = u) ∧
          (n ∈ u.flc.holders →
            let lead := u.seatRoomCode n
            let others := (u.holdersIn lead).filter (· != n)
            v = { u with flc := v.flc, ctp := v.ctp } ∧ v.flc = { u.flc with
              speakers := v.flc.speakers, holders := u.flc.holders.filter (· != n) } ∧
            (others ≠ [] → v.flc.speakers = u.flc.speakers ∧ v.ctp = u.ctp) ∧
            (others = [] → v.ctp = u.ctp.notify (.priorityOff lead n) ∧ v.flc.speakers = u.flc.speakers.map fun e =>
              if u.inRoom lead e.seat then { e with muted := false } else e)) ∧
          let w := (v.setSeat n fun x => { x with set := { x.set with placement := new } }).advance
          t = { w with slc := t.slc, ctp := t.ctp } ∧ t.slc.lines = w.slc.lines ∧ t.placement n = new ∧
          (∀ m, m ≠ n → t.seat m = w.seat m) ∧
          (w.listenValid n (w.seat n).listen = true → t = w) ∧
          (w.listenValid n (w.seat n).listen = false → (t.seat n) = { w.seat n with listen := 0 } ∧
            t.ctp = w.ctp.notify (.listenReset (w.seatRoomCode n) 1))))

/-- LINE_WAKE, LINE_STANDBY, LINE_OFF and LINE_CENSUS act by the line's state as the tables of R51, R48, R54 and R55 state;
a line that leaves ACTIVE keeps no open microphone, request, holder or live desk, and the notices of its closures follow
LINE_STATE, with the talk totals, the advance rule and DESK_OFF as R47, R108, R93 and R141 state; its refresh ends (R75). The wake
time stands in audio frames (log 7), and a line that goes to OFF keeps its overlength flag (log 35). PRIORITY_OFF names the last
holder in seat order (log 15), and the line's streams end at once (log 34). -/
def Obligations.LineCommandsActByState : Prop :=
  ∀ (s : State) (tag l : Byte), Accepts s 1 → s.heard.slc.lines.length = 4 → s.heard.slc.seats.length = 256 →
    let u := s.heard
    let n := l.toNat
    let phase := (u.line n).phase
    let wakes := fun t code => exec (.lineWake tag [l]) s = .next (State.replied t 0x21#8 tag code)
    let rests := fun t code => exec (.lineStandby tag [l]) s = .next (State.replied t 0x22#8 tag code)
    let stops := fun t code => exec (.lineOff tag [l]) s = .next (State.replied t 0x23#8 tag code)
    let counts := fun t code => exec (.lineCensus tag [l]) s = .next (State.replied t 0x24#8 tag code)
    let turned := fun p : LinePhase => (u.setLine n fun x => { x with phase := p, refresh := none }).notify
      (.lineState n phase.state p.state .command)
    let others := fun t : State => ∀ m, m ≠ n → t.line m = u.line m
    let told := fun state : LineState => u.ctp.notify (.lineState n phase.state state .command)
    (3 < n → wakes u .outOfRange ∧ rests u .outOfRange ∧ stops u .outOfRange ∧ counts u .outOfRange) ∧
    (n ≤ 3 → ((phase.state = .off ∨ phase.state = .fault) →
        wakes (turned (.waking .start 72000)) .ok ∧ rests u .wrongState ∧ counts u .wrongState) ∧
      (phase = .off → stops u .ok) ∧
      (phase = .standby → wakes (turned (.waking .resume 72000)) .ok ∧ rests u .ok ∧ counts u .wrongState) ∧
      ((phase.state = .waking ∨ phase.state = .census ∨ phase = .active) → wakes u .ok) ∧
      ((phase.state = .waking ∨ phase.state = .census) → counts u .busy) ∧
      (∀ r, phase = .waking .resume r → rests ((turned .standby).notify (.wakeCancelled n)) .ok) ∧
      (∀ r, phase = .waking .start r → rests u .busy) ∧
      (phase.state = .census → rests u .busy) ∧
      (phase ≠ .off → ∃ t, stops t .ok ∧ others t ∧ LineAbsent t n ∧
        t.line n = { u.line n with phase := .off, unitCount := 0, presenceChanged := false, refresh := none } ∧
        (phase = .active → LineCleared t n ∧ ∃ f, LineLeft u n .lineOff .lineOff .lineOff true (told .off) f t) ∧
        (phase ≠ .active → t = { u with slc := t.slc, ctp := told .off } ∧
          (∀ m, m / 64 ≠ n → t.seat m = u.seat m) ∧
          ∀ m, m ≤ 255 → m / 64 = n → t.seat m = { u.seat m with unit := none, miss := 0, flash := none, sent := none })) ∧
      (phase = .active →
        (∃ t, rests t .ok ∧ others t ∧ LineCleared t n ∧
          t.line n = { u.line n with phase := .standby, indicators := false, refresh := none } ∧
          (∀ m ∈ seatsOfLine n, (t.seat m).unit = (u.seat m).unit ∧ (t.seat m).set = (u.seat m).set ∧
            (t.seat m).listen = (u.seat m).listen ∧ (t.seat m).flash = none) ∧
          ∃ f, LineLeft u n .standby .standby .standby false (told .standby) f t) ∧
        (∃ t, counts t .ok ∧ others t ∧ LineCleared t n ∧ LineAbsent t n ∧
          (∃ f, LineLeft u n .census .census .census true (told .census) f t) ∧
          t.line n = { u.line n with
            phase := .census { found := [], sense := none, before := (seatsOfLine n).map fun m => (u.seat m).unit }
            unitCount := 0, refresh := none })))

/-- The events of a line: an overcurrent in a powered state and a silent unit in service put it in FAULT (R53); an estimate
that differs from the unit count in STANDBY sets the presence-changed flag (R49); the end of a wake leads to a census or to
ACTIVE (R43, R52); neither it nor a fault of a line that is not ACTIVE changes anything outside the line, its seats and the
port; and a refresh, in one step or several, sends each unit in service its record in position order and counts its misses
(R75, R76, R53); the record is the seat's entry of the indicator memory, whose fields follow the records (R67 to R72). A line
that leaves ACTIVE for FAULT gives its closures (R47; logs 15 and 34). These events act whenever they come (log 6). A line in
FAULT keeps its overlength flag (log 35). How far a step of the refresh goes is the event's operand (log 40), the enable is
read as it stands when a record is sent, also where it changed during the refresh (log 53), the record leaves out the
loudspeaker field (log 54), the record last sent is kept as State's own field (log 27), and a miss count that reaches 3 is a
mark that SILENT_UNIT takes, or the next refresh first (log 4), in line order (log 5). -/
def Obligations.LineEventsAct : Prop :=
  (∀ (s : State) (n : Nat), DeskLaws s → n ≤ 255 → LampsShow s n) ∧
  ∀ (s : State) (l : Nat), s.running = true → l ≤ 3 → s.slc.lines.length = 4 → s.slc.seats.length = 256 →
    let phase := (s.line l).phase
    let others := fun t : State => ∀ m, m ≠ l → t.line m = s.line m
    let absent := fun x : Seat => { x with unit := none, miss := 0, flash := none, sent := none }
    let seats := fun (t : State) (own : Seat → Seat) =>
      ∀ m, m ≤ 255 → t.seat m = if m / 64 = l then own (s.seat m) else s.seat m
    let faults := fun (t : State) (p : LinePhase) (cause : LineCause) => others t ∧ LineAbsent t l ∧
      t.line l = { s.line l with phase := p, unitCount := 0, presenceChanged := false, refresh := none } ∧
      let told := s.ctp.notify (.lineState l phase.state .fault cause)
      (phase = .active →
        LineCleared t l ∧ ∃ f, LineLeft s l .lineFault .lineFault .lineFault true told f t) ∧
      (phase ≠ .active → t = { s with slc := t.slc, ctp := told } ∧ seats t absent)
    ((phase.state = .off ∨ phase.state = .fault) → exec (.overcurrent l) s = .next s) ∧
    (phase.state ≠ .off → phase.state ≠ .fault →
      ∃ t, exec (.overcurrent l) s = .next t ∧ faults t (.fault .overcurrent none) .overcurrent) ∧
    (phase = .active → ∀ n ∈ seatsOfLine l, (s.seat n).unit.isSome → 3 ≤ (s.seat n).miss →
      (∀ m ∈ seatsOfLine l, m < n → (s.seat m).unit = none ∨ (s.seat m).miss < 3) →
      ∃ t, exec (.silentUnit l) s = .next t ∧ faults t (.fault .noResponse (some (n % 64 + 1))) .noResponse) ∧
    ((phase ≠ .active ∨ ∀ n ∈ seatsOfLine l, (s.seat n).unit = none ∨ (s.seat n).miss < 3) →
      exec (.silentUnit l) s = .next s) ∧
    (∀ x, (phase ≠ .standby ∨ x = (s.line l).unitCount) → exec (.standbyCurrentMeasurement l x) s = .next s) ∧
    (∀ x, phase = .standby → x ≠ (s.line l).unitCount →
      ∃ t, exec (.standbyCurrentMeasurement l x) s = .next t ∧ t = { s with slc := t.slc } ∧ others t ∧
        t.slc.seats = s.slc.seats ∧ t.line l = { s.line l with presenceChanged := true }) ∧
    (phase.state ≠ .waking → exec (.wakeEnd l) s = .next s) ∧
    (∀ o r, phase = .waking o r → (o = .start ∨ (s.line l).presenceChanged = true) →
      ∃ t, exec (.wakeEnd l) s = .next t ∧ others t ∧ LineAbsent t l ∧ seats t absent ∧
        t = { s with slc := t.slc, ctp := t.ctp } ∧
        t.line l = { s.line l with
          phase := .census { found := [], sense := none, before := (seatsOfLine l).map fun m => (s.seat m).unit }
          unitCount := 0, refresh := none
          indicators := (s.line l).indicators || (s.line l).set.autoRelight } ∧
        t.ctp = s.ctp.notify (.lineState l .waking .census .wakeEnd)) ∧
    (∀ r, phase = .waking .resume r → (s.line l).presenceChanged = false →
      ∃ t, exec (.wakeEnd l) s = .next t ∧ others t ∧ (seats t fun x => { x with miss := 0 }) ∧
        t = { s with slc := t.slc, ctp := t.ctp } ∧
        t.line l = { s.line l with
          phase := .active, refresh := none
          indicators := (s.line l).indicators || (s.line l).set.autoRelight } ∧
        t.ctp = s.ctp.notify (.lineState l .waking .active .wakeEnd)) ∧
    let underWay := [0, 1, 2, 3].any fun m => s.lineActive m && (s.line m).refresh.isSome
    (∀ reached silent, underWay = false → ∀ s1 s2 s3 s4 : State, exec (.silentUnit 0) s = .next s1 →
      exec (.silentUnit 1) s1 = .next s2 → exec (.silentUnit 2) s2 = .next s3 → exec (.silentUnit 3) s3 = .next s4 →
      exec (.indicatorRefresh ⟨reached, silent⟩) s = exec (.indicatorRefresh ⟨reached, silent⟩) s4) ∧
    (∀ reached silent,
      (underWay = true ∨ ∀ n, n ≤ 255 → s.seatActive n = true → (s.seat n).unit = none ∨ (s.seat n).miss < 3) →
      let stands := fun m => if s.lineActive m then (if underWay then (s.line m).refresh else some 0) else none
      let reach := fun m => min 64 (reached.getD m 64)
      let sends := fun n => (s.seat n).unit.isSome ∧ ∃ p, stands (n / 64) = some p ∧ p < n % 64 + 1 ∧
        n % 64 + 1 ≤ reach (n / 64)
      let next := fun m => (stands m).bind fun p => if reach m = 64 then none else some (max p (reach m))
      ∃ t, exec (.indicatorRefresh ⟨reached, silent⟩) s = .next t ∧ t = { s with slc := t.slc } ∧
        (∀ m, m ≤ 3 → t.line m = { s.line m with refresh := next m }) ∧
        ∀ n, n ≤ 255 →
          (¬sends n → t.seat n = s.seat n) ∧
          (sends n →
            t.seat n = { s.seat n with
              sent := some (if (s.line (n / 64)).indicators = true ∧ (s.seat n).kind ≠ some .unknown then s.lamps n
                else blankLamps)
              miss := if n ∈ silent then min 3 ((s.seat n).miss + 1) else 0 }))

/-- A census slot enters the unit that answers, by the bands of R44, or fails the census where the unit it expects does not
answer (R45); the completed census is written into the seat table in one step, its notices are queued in order, and the line
becomes ACTIVE (R46). Before position 1 has answered the event itself says whether a unit is there (log 26), and a census that
fails leaves the overlength flag as it was (log 35). -/
def Obligations.CensusWalksTheChain : Prop :=
  ∀ (s : State) (l : Nat) (c : Census), s.running = true → l ≤ 3 → s.slc.lines.length = 4 →
    (s.line l).phase = .census c →
    let others := fun t : State => ∀ m, m ≠ l → t.line m = s.line m
    (∀ a : UnitAnswer, c.found.length < 64 → c.sense ≠ some false →
      let r := a.result.toNat
      let kind := if 100 ≤ r ∧ r ≤ 299 then Kind.delegate else if 300 ≤ r ∧ r ≤ 499 then .chair
        else if 500 ≤ r ∧ r ≤ 699 then .desk else .unknown
      let found := c.found ++ [{ serial := a.serial, kind := kind }]
      ∃ t, exec (.censusSlot l (some a)) s = .next t ∧ t = { s with slc := { s.slc with lines := t.slc.lines } } ∧
        others t ∧ t.line l = { s.line l with
          phase := .census { c with found := found, sense := some a.sense }
          unitCount := found.length
          overlength := (s.line l).overlength || (decide (found.length = 64) && a.sense) }) ∧
    (c.found.length < 64 → c.sense ≠ some false →
      ∃ t, exec (.censusSlot l none) s = .next t ∧ others t ∧ LineAbsent t l ∧ t = { s with slc := t.slc, ctp := t.ctp } ∧
        (∀ n, n / 64 ≠ l → t.seat n = s.seat n) ∧
        t.line l = { s.line l with
          phase := .fault .noResponse (some (c.found.length + 1)), unitCount := 0, presenceChanged := false
          refresh := none } ∧
        t.ctp = s.ctp.notify (.lineState l .census .fault .noResponse)) ∧
    ((c.found.length = 64 ∨ c.sense ≠ some true) → s.slc.seats.length = 256 →
      let overlong := decide (c.found.length = 64) && decide (c.sense = some true)
      let notices := (if overlong then [Notice.lineOverlength l] else []) ++
        ((List.range 64).filterMap fun i =>
          match c.before.getD i none, c.found[i]? with
          | none, some v => some (.seatFound (64 * l + i) v.serial v.kind)
          | some v, none => some (.seatLost (64 * l + i) v.serial)
          | some v, some w =>
            if v = w then none else some (.seatChanged (64 * l + i) v.serial v.kind w.serial w.kind)
          | none, none => none) ++
        [.censusDone l c.found.length, .lineState l .census .active .censusEnd]
      ∃ t, exec (.censusComplete l) s = .next t ∧ others t ∧ t = { s with slc := t.slc, ctp := t.ctp } ∧
        t.line l = { s.line l with
          phase := .active, unitCount := c.found.length, presenceChanged := false, overlength := overlong
          refresh := none } ∧
        (∀ i, i < 64 → t.seat (64 * l + i) =
          { s.seat (64 * l + i) with unit := c.found[i]?, miss := 0 }) ∧
        (∀ n, n / 64 ≠ l → t.seat n = s.seat n) ∧
        t.ctp = notices.foldl Ctp.notify s.ctp)

/-- Where a seat event goes: from STANDBY a press may wake the line and nothing else acts (R50); in WAKING, CENSUS, OFF or FAULT
it is discarded; on an ACTIVE line, events of an ABSENT or UNKNOWN seat, events the kind does not send and values above 24 are
discarded, and a press of an unplaced seat shows the flash with SEAT_UNPLACED (R60). The wake time stands in audio frames (log
7). -/
def Obligations.SeatEventsAreRouted : Prop :=
  ∀ (s : State) (n : Nat), s.running = true → n ≤ 255 →
    let line := n / 64
    let phase := (s.line line).phase
    let kind := (s.seat n).kind
    let ignores := fun c : Instr => exec c s = .next s
    let presses := [Instr.talk n, .priorityDown n]
    let turns := fun (o : OutputSelect) (v : Nat) =>
      [Instr.priorityUp n, .outputSelect n o, .inputSelect n v, .listenSelect n v]
    (∀ o v, (phase ≠ .active ∨ kind = none ∨ kind = some .unknown) → ∀ c ∈ turns o v, ignores c) ∧
    (∀ c ∈ presses, phase = .standby →
      ((kind = some .delegate ∨ kind = some .chair ∨ kind = some .desk) → (s.line line).set.wakeOnPress = true →
        exec c s = .next ((s.setLine line fun x => { x with phase := .waking .resume 72000, refresh := none }).notify
          (.lineState line .standby .waking .press))) ∧
      ((kind = none ∨ kind = some .unknown ∨ (s.line line).set.wakeOnPress = false) → ignores c)) ∧
    (∀ c ∈ presses, phase ≠ .active → phase ≠ .standby → ignores c) ∧
    (∀ c ∈ presses, phase = .active → (kind = none ∨ kind = some .unknown) → ignores c) ∧
    (phase = .active →
      (kind ≠ some .chair → ignores (.priorityDown n) ∧ ignores (.priorityUp n)) ∧
      (kind = some .chair → s.placement n = none → ignores (.priorityUp n)) ∧
      ((kind = some .delegate ∨ kind = some .chair) → s.placement n = none →
        exec (.talk n) s = .next ((s.flash n).notify (.seatUnplaced n))) ∧
      (kind = some .chair → s.placement n = none →
        exec (.priorityDown n) s = .next ((s.flash n).notify (.seatUnplaced n))) ∧
      (∀ o v, kind ≠ some .desk → ignores (.outputSelect n o) ∧ ignores (.inputSelect n v)) ∧
      (∀ v, 24 < v → ignores (.inputSelect n v) ∧ ignores (.listenSelect n v)))

/-! ### Languages -/

/-- The events of a desk, and the listen selection of any seat: TALK by the table of R138, OUTPUT_SELECT (R140),
INPUT_SELECT (R142, R144) and LISTEN_SELECT (R145). A desk goes live or off in its entry alone, with DESK_LIVE or DESK_OFF; the
channel of its output select then has it as its live desk and is INTERPRETED, or has none and is AUTO_FLOOR (R138, R130).
B is open to a desk exactly where its booth is in service with a B channel that is not SHADOW (R140). A relay source of a booth is
a PRIMARY channel of the booth's room that is not one of the booth's own channels (R142).
OUTPUT_SELECT of B asks that the booth be in service, before it asks whether B is selected already (log 29). The depth test counts
the chain behind a SHADOW channel too (log 49). -/
def Obligations.DeskAndListenEventsAct : Prop :=
  (∀ (s : State) (b : Nat),
    (s.bOpen b = true ↔ s.inService b = true ∧ s.boothB b ≠ 0 ∧ ∀ p, s.role (s.boothB b) ≠ .shadow p) ∧
    ∀ c, s.relaySource b c = true ↔ s.role c = .primary ∧
      leadOf s.joins (s.channel c).home = leadOf s.joins (s.booth b).home ∧ c ≠ (s.booth b).a ∧ c ≠ (s.booth b).b) ∧
  (∀ (s : State) (n b : Nat), n ≤ 255 → s.slc.seats.length = 256 → (s.seat n).set.booth = some b →
    let d := (s.seat n).desk
    let c := match d.output with
      | .a => (s.booth b).a
      | .b => s.boothB b
    let writes := fun (t : State) (live : Bool) (x : Notice) =>
      t = { s with slc := { s.slc with seats := t.slc.seats }, ctp := s.ctp.notify x } ∧
      t.seat n = { s.seat n with desk := { d with live := live } } ∧ ∀ m, m ≠ n → t.seat m = s.seat m
    writes (s.deskOn n) true (.deskLive n b c (s.channelRoom c)) ∧
    (∀ cause, writes (s.deskOff n cause) false (.deskOff n b c cause)) ∧
    (DeskLaws s → 1 ≤ b → b ≤ 16 → s.inService b = true → s.parked b = false →
      (s.boothLive b = none → (s.deskOn n).liveDesk c = some n ∧ (s.deskOn n).outputMode c = .interpreted) ∧
      (d.live = true → ∀ cause,
        (s.deskOff n cause).liveDesk c = none ∧ (s.deskOff n cause).outputMode c = .autoFloor))) ∧
  (∀ (s : State) (n : Nat), s.running = true → SeatInService s n .desk →
    let takes := fun c t => exec c s = Host.Outcome.next (t : State)
    let live := (s.seat n).desk.live
    let writes := fun f : DeskEntry → DeskEntry => s.setSeat n fun x => { x with desk := f x.desk }
    ((s.seat n).set.booth = none → takes (.talk n) (s.flash n) ∧ (∀ o, takes (.outputSelect n o) (s.flash n)) ∧
      ∀ v, v ≤ 24 → takes (.inputSelect n v) (s.flash n)) ∧
    ∀ b, (s.seat n).set.booth = some b →
      ((s.inService b = false ∨ s.parked b = true) → takes (.talk n) (s.flash n)) ∧
      (s.inService b = true → s.parked b = false →
        (live = true → takes (.talk n) (s.deskOff n .seat)) ∧
        (live = false → s.boothLive b = none → takes (.talk n) (s.deskOn n)) ∧
        (∀ m, live = false → s.boothLive b = some m →
          ((s.booth b).interlock = .refuse → takes (.talk n) s) ∧
          ((s.booth b).interlock = .takeover → takes (.talk n) ((s.deskOff m .takeover).deskOn n)))) ∧
      (∀ o, (o = .b ∧ s.bOpen b = false) → takes (.outputSelect n o) (s.flash n)) ∧
      (∀ o, (o = .a ∨ s.bOpen b = true) →
        ((s.seat n).desk.output = o → takes (.outputSelect n o) s) ∧
        ((s.seat n).desk.output ≠ o → live = false →
          takes (.outputSelect n o) (writes fun d => { d with output := o })) ∧
        ((s.seat n).desk.output ≠ o → live = true →
          takes (.outputSelect n o)
            (((s.deskOff n .seat).setSeat n fun x => { x with desk := { x.desk with output := o } }).deskOn n))) ∧
      (∀ v, v ≤ 24 →
        let u := writes fun d => { d with input := v }
        ((v = 0 ∨ (s.relaySource b v = true ∧ u.relayCycle = false ∧ u.relayTooDeep = false)) →
          takes (.inputSelect n v) u) ∧
        (v ≠ 0 → (s.relaySource b v = false ∨ u.relayCycle = true ∨ u.relayTooDeep = true) →
          takes (.inputSelect n v) (s.flash n)))) ∧
  ∀ (s : State) (n v : Nat) (k : Kind), s.running = true → SeatInService s n k → k ≠ .unknown → v ≤ 24 →
    let valid := v = 0 ∨ (s.inUse v = true ∧ s.seatRoom n = some (s.channelRoom v))
    (valid → exec (.listenSelect n v) s = .next (s.setSeat n fun x => { x with listen := v })) ∧
    (¬valid → exec (.listenSelect n v) s = .next (s.flash n))

/-- The roles of the channels (R128, R129), and CHANNEL_SETUP: its checks in the order of R133, a stored B channel above Nc
counting in check 2 (log 48); a setup that changes the channel writes it, sets to 0 the relay and listen
selections that its roles no longer allow, and clears a monitor route onto the channel that is now disabled or PRIVATE
(R134). Its notices are CHANNEL_ROLE of each role changed (R129), RELAY_LOST, LISTEN_RESET, MONITOR_CLEARED (M1 first, log 46) and
BOOTH_UNPARKED, in that order (R134). No output select changes, of a booth not in service either (log 51). -/
def Obligations.ChannelSetupActs : Prop :=
  (∀ s : State, RolesFollow s) ∧
  ∀ (s : State) (tag c e c1 c2 c3 h : Byte), Accepts s 1 → TablesSized s.heard →
    let u := s.heard
    let n := c.toNat
    let x : Channel := { enabled := decide (e.toNat = 1), tag := ⟨c1, c2, c3⟩, home := h.toNat }
    let v := u.setChannel n fun _ => x
    let answers := fun t code => exec (.channelSetup tag [c, e, c1, c2, c3, h]) s = .next (State.replied t 0x40#8 tag code)
    let letter := fun b : Byte => 65 ≤ b.toNat ∧ b.toNat ≤ 90
    let fits := 1 ≤ n ∧ n ≤ 24 ∧ e.toNat ≤ 1 ∧ letter c1 ∧ letter c2 ∧ letter c3 ∧ 1 ≤ h.toNat ∧ h.toNat ≤ 6
    let owned := (∃ b, 1 ≤ b ∧ b ≤ 16 ∧ (u.booth b).enabled = true ∧ ((u.booth b).a = n ∨ (u.booth b).b = n)) ∧
      (x.enabled = false ∨ x.tag ≠ (u.channel n).tag ∨ x.home ≠ (u.channel n).home)
    let shadows := ∃ b d, 1 ≤ b ∧ b ≤ 16 ∧ 1 ≤ d ∧ d ≤ 24 ∧ u.inService b = true ∧
      ((u.booth b).a = d ∨ (u.booth b).b = d) ∧ u.role d = .primary ∧ (v.role d).isShadow = true
    (¬fits → answers u .outOfRange) ∧
    (fits → owned → answers u .wrongState) ∧
    (fits → ¬owned → shadows → answers u .shadow) ∧
    (fits → ¬owned → ¬shadows → u.channel n = x → answers u .ok) ∧
    (fits → ¬owned → ¬shadows → u.channel n ≠ x → ∃ t : State, answers t .ok ∧
      t = { u with slc := t.slc, lgr := t.lgr, ctp := t.ctp } ∧ t.slc.lines = u.slc.lines ∧
      t.lgr.booths = u.lgr.booths ∧ t.channel n = x ∧ (∀ d, 1 ≤ d → d ≠ n → t.channel d = u.channel d) ∧
      (∀ m, m ≤ 255 →
        let select := (u.seat m).desk.input
        let keeps := (u.seat m).set.booth = none ∨
          (v.role select = .primary ∧ v.channelRoom select = v.boothRoom ((u.seat m).set.booth.getD 0))
        t.seat m = { u.seat m with
          listen := if v.listenValid m (u.seat m).listen = true then (u.seat m).listen else 0
          desk := { (u.seat m).desk with input := if keeps then select else 0 } }) ∧
      (let relays := v.relayLosses fun m =>
          let select := (u.seat m).desk.input
          !(v.role select == .primary && v.channelRoom select == v.boothRoom ((u.seat m).set.booth.getD 0))
        let listens := v.listenResets fun m => !v.listenValid m (u.seat m).listen
        let cleared := [1, 2].filterMap fun m =>
          if u.monitor m = .channel n ∧ (x.enabled = false ∨ u.privacy x.home = .closed_) then
            some (.monitorCleared m (.channel n) .channel)
          else none
        t.ctp = (v.roleChanges u ++ relays ++ listens ++ cleared ++ v.unparkings u).foldl Ctp.notify u.ctp) ∧
      ∀ m, (m = 1 ∨ m = 2) →
        let lost := u.monitor m = .channel n ∧ (x.enabled = false ∨ u.privacy x.home = .closed_)
        (lost → t.monitor m = .none) ∧ (¬lost → t.monitor m = u.monitor m))

/-- What is derived of booths (R127, R130, R131, R138, R147) and of the relay graph (R143, R144, with log 49), and BOOTH_SETUP:
its checks in the order of R135; a setup that passes writes the booth and brings its desk entries into line, with RELAY_LOST of
each desk whose input select becomes 0, in seat order, and BOOTH_UNPARKED where the booth was parked and no longer is (R136). -/
def Obligations.BoothSetupActs : Prop :=
  (∀ s : State, BoothsFollow s ∧ RelayFollows s) ∧
  ∀ (s : State) (tag number e h a b i : Byte), Accepts s 1 → TablesSized s.heard →
    let u := s.heard
    let n := number.toNat
    let x : Booth := { enabled := decide (e.toNat = 1), home := h.toNat, a := a.toNat, b := b.toNat
                       interlock := if i.toNat = 0 then .refuse else .takeover }
    let v := u.writeBooth n x
    let answers := fun t code => exec (.boothSetup tag [number, e, h, a, b, i]) s = .next (State.replied t 0x41#8 tag code)
    let ranges := 1 ≤ n ∧ n ≤ 16 ∧ e.toNat ≤ 1 ∧ 1 ≤ h.toNat ∧ h.toNat ≤ 6 ∧ x.a ≤ 24 ∧ x.b ≤ 24 ∧ i.toNat ≤ 1 ∧
      (x.a = 0 → e.toNat = 0 ∧ x.b = 0)
    let live := ∃ m, m ≤ 255 ∧ (u.seat m).set.booth = some n ∧ (u.seat m).desk.live = true
    let named := fun c => c ≠ 0 ∧ (c = x.a ∨ c = x.b)
    let free := (∀ c, named c → u.inUse c = true ∧ ∀ d, 1 ≤ d → d ≤ 16 → d ≠ n → (u.booth d).enabled = true →
      (u.booth d).a ≠ c ∧ (u.booth d).b ≠ c) ∧ x.a ≠ x.b
    let homes := ∀ c, named c → (u.channel c).home = x.home
    let lit := ∀ c, named c → (u.role c).isShadow = false
    let on := e.toNat = 1
    (¬ranges → answers u .outOfRange) ∧
    (ranges → live → answers u .wrongState) ∧
    (ranges → ¬live → on → ¬free → answers u .channelTaken) ∧
    (ranges → ¬live → on → free → ¬homes → answers u .homeMismatch) ∧
    (ranges → ¬live → on → free → homes → ¬lit → answers u .shadow) ∧
    (ranges → ¬live → on → free → homes → lit → v.relayCycle = true → answers u .relayLoop) ∧
    (ranges → ¬live → on → free → homes → lit → v.relayCycle = false → v.relayTooDeep = true → answers u .relayDepth) ∧
    (ranges → ¬live → (¬on ∨ (free ∧ homes ∧ lit ∧ v.relayCycle = false ∧ v.relayTooDeep = false)) →
      ∃ t : State, answers t .ok ∧ t = { v with ctp := t.ctp } ∧
        v = { u with slc := { u.slc with seats := v.slc.seats }, lgr := { u.lgr with booths := v.lgr.booths } } ∧
        t.booth n = x ∧ (∀ d, 1 ≤ d → d ≠ n → t.booth d = u.booth d) ∧
        t.ctp = ((u.relayLosses fun m => (u.seat m).set.booth == some n && !v.relaySource n (u.seat m).desk.input) ++
          (if u.parked n = true ∧ v.parked n = false then [Notice.boothUnparked n (v.roomOf x.home)] else [])).foldl
            Ctp.notify u.ctp ∧
        (∀ m, m ≤ 255 → (u.seat m).set.booth ≠ some n → t.seat m = u.seat m) ∧
        ∀ m, m ≤ 255 → (u.seat m).set.booth = some n → t.seat m = { u.seat m with desk :=
          { (u.seat m).desk with
            output := if x.b = 0 then .a else (u.seat m).desk.output
            input := if t.relaySource n (u.seat m).desk.input = true then (u.seat m).desk.input else 0 } })

/-- DESK_ASSIGN and MONITOR_ROUTE: their checks in the order of R137 and R148, the new desk entry off, on output A and
listening to the floor, and the new route. -/
def Obligations.DeskAssignAndMonitorRouteAct : Prop :=
  (∀ (s : State) (tag hi lo b : Byte), Accepts s 1 → s.heard.slc.seats.length = 256 →
    let u := s.heard
    let n := hi.toNat * 256 + lo.toNat
    let new := if b.toNat = 0 then none else some b.toNat
    let answers := fun t code => exec (.deskAssign tag [hi, lo, b]) s = .next (State.replied t 0x42#8 tag code)
    let live := (u.seat n).set.booth.isSome ∧ (u.seat n).desk.live = true
    ((255 < n ∨ 16 < b.toNat) → answers u .outOfRange) ∧
    (n ≤ 255 → b.toNat ≤ 16 →
      (u.seatActive n = false → answers u .lineDown) ∧
      (u.seatActive n = true → live → answers u .wrongState) ∧
      (u.seatActive n = true → ¬live → (u.seat n).set.booth = new → answers u .ok) ∧
      (u.seatActive n = true → ¬live → (u.seat n).set.booth ≠ new →
        (b.toNat ≠ 0 → 3 ≤ (u.desksOf b.toNat).length → answers u .boothFull) ∧
        ((b.toNat = 0 ∨ (u.desksOf b.toNat).length < 3) → ∃ t, answers t .ok ∧
          t = { u with slc := { u.slc with seats := t.slc.seats } } ∧ (∀ m, m ≠ n → t.seat m = u.seat m) ∧
          t.seat n = { u.seat n with
            set := { (u.seat n).set with booth := new }
            desk := { live := false, output := .a, input := 0 } })))) ∧
  ∀ (s : State) (tag m k c : Byte), Accepts s 1 → s.heard.lgr.monitors.length = 2 →
    let u := s.heard
    let n := m.toNat
    let x := c.toNat
    let answers := fun t code => exec (.monitorRoute tag [m, k, c]) s = .next (State.replied t 0x44#8 tag code)
    let one := n = 1 ∨ n = 2
    let sets := fun r => ∃ t, answers t .ok ∧ t = { u with lgr := { u.lgr with monitors := t.lgr.monitors } } ∧
      t.monitor n = r ∧ ∀ j, (j = 1 ∨ j = 2) → j ≠ n → t.monitor j = u.monitor j
    ((¬one ∨ 2 < k.toNat ∨ (k.toNat = 1 ∧ (x = 0 ∨ 6 < x)) ∨ (k.toNat = 2 ∧ (x = 0 ∨ 24 < x))) →
      answers u .outOfRange) ∧
    (one → k.toNat = 0 → sets .none) ∧
    (one → k.toNat = 1 → 1 ≤ x → x ≤ 6 →
      (u.privacy x = .closed_ → answers u .privacy) ∧ (u.privacy x = .open_ → sets (.floor x))) ∧
    (one → k.toNat = 2 → 1 ≤ x → x ≤ 24 →
      (u.inUse x = false → answers u .notFound) ∧
      (u.inUse x = true → u.privacy (u.channel x).home = .closed_ → answers u .privacy) ∧
      (u.inUse x = true → u.privacy (u.channel x).home = .open_ → sets (.channel x)))
end

