-- ==== Sys2Proof/Laws/State.lean ====
section
/-! SUPPORT. What each shared update of a record leaves in every field of State: one lemma per field per update, so that no
proof unfolds a record update. -/

namespace Sys2Proof.Machine

variable (s : State)

/-! ### setWall -/

@[simp] theorem State.setWall_ctp (k : Nat) (f : Wall → Wall) : (s.setWall k f).ctp = s.ctp := rfl
@[simp] theorem State.setWall_ptu (k : Nat) (f : Wall → Wall) :
    (s.setWall k f).ptu = { s.ptu with walls := s.ptu.walls.modify (k - 1) f } := rfl
@[simp] theorem State.setWall_slc (k : Nat) (f : Wall → Wall) : (s.setWall k f).slc = s.slc := rfl
@[simp] theorem State.setWall_flc (k : Nat) (f : Wall → Wall) : (s.setWall k f).flc = s.flc := rfl
@[simp] theorem State.setWall_lgr (k : Nat) (f : Wall → Wall) : (s.setWall k f).lgr = s.lgr := rfl
@[simp] theorem State.setWall_mxe (k : Nat) (f : Wall → Wall) : (s.setWall k f).mxe = s.mxe := rfl
@[simp] theorem State.setWall_sts (k : Nat) (f : Wall → Wall) : (s.setWall k f).sts = s.sts := rfl
@[simp] theorem State.setWall_stamp (k : Nat) (f : Wall → Wall) : (s.setWall k f).stamp = s.stamp := rfl
@[simp] theorem State.setWall_powered (k : Nat) (f : Wall → Wall) : (s.setWall k f).powered = s.powered := rfl
@[simp] theorem State.setWall_resetLow (k : Nat) (f : Wall → Wall) :
    (s.setWall k f).resetLow = s.resetLow := rfl
@[simp] theorem State.setWall_started (k : Nat) (f : Wall → Wall) : (s.setWall k f).started = s.started := rfl
@[simp] theorem State.setWall_pending (k : Nat) (f : Wall → Wall) : (s.setWall k f).pending = s.pending := rfl

/-! ### setSegment -/

@[simp] theorem State.setSegment_ctp (g : Nat) (f : Segment → Segment) : (s.setSegment g f).ctp = s.ctp := rfl
@[simp] theorem State.setSegment_ptu (g : Nat) (f : Segment → Segment) :
    (s.setSegment g f).ptu = { s.ptu with segments := s.ptu.segments.modify (g - 1) f } := rfl
@[simp] theorem State.setSegment_slc (g : Nat) (f : Segment → Segment) : (s.setSegment g f).slc = s.slc := rfl
@[simp] theorem State.setSegment_flc (g : Nat) (f : Segment → Segment) : (s.setSegment g f).flc = s.flc := rfl
@[simp] theorem State.setSegment_lgr (g : Nat) (f : Segment → Segment) : (s.setSegment g f).lgr = s.lgr := rfl
@[simp] theorem State.setSegment_mxe (g : Nat) (f : Segment → Segment) : (s.setSegment g f).mxe = s.mxe := rfl
@[simp] theorem State.setSegment_sts (g : Nat) (f : Segment → Segment) : (s.setSegment g f).sts = s.sts := rfl
@[simp] theorem State.setSegment_stamp (g : Nat) (f : Segment → Segment) :
    (s.setSegment g f).stamp = s.stamp := rfl
@[simp] theorem State.setSegment_powered (g : Nat) (f : Segment → Segment) :
    (s.setSegment g f).powered = s.powered := rfl
@[simp] theorem State.setSegment_resetLow (g : Nat) (f : Segment → Segment) :
    (s.setSegment g f).resetLow = s.resetLow := rfl
@[simp] theorem State.setSegment_started (g : Nat) (f : Segment → Segment) :
    (s.setSegment g f).started = s.started := rfl
@[simp] theorem State.setSegment_pending (g : Nat) (f : Segment → Segment) :
    (s.setSegment g f).pending = s.pending := rfl

/-! ### setSeq -/

@[simp] theorem State.setSeq_ctp (q : SeqState) : (s.setSeq q).ctp = s.ctp := rfl
@[simp] theorem State.setSeq_ptu (q : SeqState) : (s.setSeq q).ptu = { s.ptu with seq := q } := rfl
@[simp] theorem State.setSeq_slc (q : SeqState) : (s.setSeq q).slc = s.slc := rfl
@[simp] theorem State.setSeq_flc (q : SeqState) : (s.setSeq q).flc = s.flc := rfl
@[simp] theorem State.setSeq_lgr (q : SeqState) : (s.setSeq q).lgr = s.lgr := rfl
@[simp] theorem State.setSeq_mxe (q : SeqState) : (s.setSeq q).mxe = s.mxe := rfl
@[simp] theorem State.setSeq_sts (q : SeqState) : (s.setSeq q).sts = s.sts := rfl
@[simp] theorem State.setSeq_stamp (q : SeqState) : (s.setSeq q).stamp = s.stamp := rfl
@[simp] theorem State.setSeq_powered (q : SeqState) : (s.setSeq q).powered = s.powered := rfl
@[simp] theorem State.setSeq_resetLow (q : SeqState) : (s.setSeq q).resetLow = s.resetLow := rfl
@[simp] theorem State.setSeq_started (q : SeqState) : (s.setSeq q).started = s.started := rfl
@[simp] theorem State.setSeq_pending (q : SeqState) : (s.setSeq q).pending = s.pending := rfl

/-! ### retarget -/

@[simp] theorem State.retarget_ctp (js : List Join) : (s.retarget js).ctp = s.ctp := rfl
@[simp] theorem State.retarget_slc (js : List Join) : (s.retarget js).slc = s.slc := rfl
@[simp] theorem State.retarget_flc (js : List Join) : (s.retarget js).flc = s.flc := rfl
@[simp] theorem State.retarget_lgr (js : List Join) : (s.retarget js).lgr = s.lgr := rfl
@[simp] theorem State.retarget_mxe (js : List Join) : (s.retarget js).mxe = s.mxe := rfl
@[simp] theorem State.retarget_sts (js : List Join) : (s.retarget js).sts = s.sts := rfl
@[simp] theorem State.retarget_stamp (js : List Join) : (s.retarget js).stamp = s.stamp := rfl
@[simp] theorem State.retarget_powered (js : List Join) : (s.retarget js).powered = s.powered := rfl
@[simp] theorem State.retarget_resetLow (js : List Join) : (s.retarget js).resetLow = s.resetLow := rfl
@[simp] theorem State.retarget_started (js : List Join) : (s.retarget js).started = s.started := rfl
@[simp] theorem State.retarget_pending (js : List Join) : (s.retarget js).pending = s.pending := rfl

/-! ### captureK -/

@[simp] theorem State.captureK_ctp : (s.captureK).ctp = s.ctp := rfl
@[simp] theorem State.captureK_slc : (s.captureK).slc = s.slc := rfl
@[simp] theorem State.captureK_flc : (s.captureK).flc = s.flc := rfl
@[simp] theorem State.captureK_lgr : (s.captureK).lgr = s.lgr := rfl
@[simp] theorem State.captureK_mxe : (s.captureK).mxe = s.mxe := rfl
@[simp] theorem State.captureK_sts : (s.captureK).sts = s.sts := rfl
@[simp] theorem State.captureK_stamp : (s.captureK).stamp = s.stamp := rfl
@[simp] theorem State.captureK_powered : (s.captureK).powered = s.powered := rfl
@[simp] theorem State.captureK_resetLow : (s.captureK).resetLow = s.resetLow := rfl
@[simp] theorem State.captureK_started : (s.captureK).started = s.started := rfl
@[simp] theorem State.captureK_pending : (s.captureK).pending = s.pending := rfl

/-! ### setLine -/

@[simp] theorem State.setLine_ctp (l : Nat) (f : Line → Line) : (s.setLine l f).ctp = s.ctp := rfl
@[simp] theorem State.setLine_ptu (l : Nat) (f : Line → Line) : (s.setLine l f).ptu = s.ptu := rfl
@[simp] theorem State.setLine_slc (l : Nat) (f : Line → Line) :
    (s.setLine l f).slc = { s.slc with lines := s.slc.lines.modify l f } := rfl
@[simp] theorem State.setLine_flc (l : Nat) (f : Line → Line) : (s.setLine l f).flc = s.flc := rfl
@[simp] theorem State.setLine_lgr (l : Nat) (f : Line → Line) : (s.setLine l f).lgr = s.lgr := rfl
@[simp] theorem State.setLine_mxe (l : Nat) (f : Line → Line) : (s.setLine l f).mxe = s.mxe := rfl
@[simp] theorem State.setLine_sts (l : Nat) (f : Line → Line) : (s.setLine l f).sts = s.sts := rfl
@[simp] theorem State.setLine_stamp (l : Nat) (f : Line → Line) : (s.setLine l f).stamp = s.stamp := rfl
@[simp] theorem State.setLine_powered (l : Nat) (f : Line → Line) : (s.setLine l f).powered = s.powered := rfl
@[simp] theorem State.setLine_resetLow (l : Nat) (f : Line → Line) :
    (s.setLine l f).resetLow = s.resetLow := rfl
@[simp] theorem State.setLine_started (l : Nat) (f : Line → Line) : (s.setLine l f).started = s.started := rfl
@[simp] theorem State.setLine_pending (l : Nat) (f : Line → Line) : (s.setLine l f).pending = s.pending := rfl

/-! ### setLines -/

@[simp] theorem State.setLines_ctp (f : Nat → Line → Line) : (s.setLines f).ctp = s.ctp := rfl
@[simp] theorem State.setLines_ptu (f : Nat → Line → Line) : (s.setLines f).ptu = s.ptu := rfl
@[simp] theorem State.setLines_slc (f : Nat → Line → Line) :
    (s.setLines f).slc = { s.slc with lines := s.slc.lines.mapIdx f } := rfl
@[simp] theorem State.setLines_flc (f : Nat → Line → Line) : (s.setLines f).flc = s.flc := rfl
@[simp] theorem State.setLines_lgr (f : Nat → Line → Line) : (s.setLines f).lgr = s.lgr := rfl
@[simp] theorem State.setLines_mxe (f : Nat → Line → Line) : (s.setLines f).mxe = s.mxe := rfl
@[simp] theorem State.setLines_sts (f : Nat → Line → Line) : (s.setLines f).sts = s.sts := rfl
@[simp] theorem State.setLines_stamp (f : Nat → Line → Line) : (s.setLines f).stamp = s.stamp := rfl
@[simp] theorem State.setLines_powered (f : Nat → Line → Line) : (s.setLines f).powered = s.powered := rfl
@[simp] theorem State.setLines_resetLow (f : Nat → Line → Line) : (s.setLines f).resetLow = s.resetLow := rfl
@[simp] theorem State.setLines_started (f : Nat → Line → Line) : (s.setLines f).started = s.started := rfl
@[simp] theorem State.setLines_pending (f : Nat → Line → Line) : (s.setLines f).pending = s.pending := rfl

/-! ### setSeat -/

@[simp] theorem State.setSeat_ctp (n : Nat) (f : Seat → Seat) : (s.setSeat n f).ctp = s.ctp := rfl
@[simp] theorem State.setSeat_ptu (n : Nat) (f : Seat → Seat) : (s.setSeat n f).ptu = s.ptu := rfl
@[simp] theorem State.setSeat_slc (n : Nat) (f : Seat → Seat) :
    (s.setSeat n f).slc = { s.slc with seats := s.slc.seats.modify n f } := rfl
@[simp] theorem State.setSeat_flc (n : Nat) (f : Seat → Seat) : (s.setSeat n f).flc = s.flc := rfl
@[simp] theorem State.setSeat_lgr (n : Nat) (f : Seat → Seat) : (s.setSeat n f).lgr = s.lgr := rfl
@[simp] theorem State.setSeat_mxe (n : Nat) (f : Seat → Seat) : (s.setSeat n f).mxe = s.mxe := rfl
@[simp] theorem State.setSeat_sts (n : Nat) (f : Seat → Seat) : (s.setSeat n f).sts = s.sts := rfl
@[simp] theorem State.setSeat_stamp (n : Nat) (f : Seat → Seat) : (s.setSeat n f).stamp = s.stamp := rfl
@[simp] theorem State.setSeat_powered (n : Nat) (f : Seat → Seat) : (s.setSeat n f).powered = s.powered := rfl
@[simp] theorem State.setSeat_resetLow (n : Nat) (f : Seat → Seat) :
    (s.setSeat n f).resetLow = s.resetLow := rfl
@[simp] theorem State.setSeat_started (n : Nat) (f : Seat → Seat) : (s.setSeat n f).started = s.started := rfl
@[simp] theorem State.setSeat_pending (n : Nat) (f : Seat → Seat) : (s.setSeat n f).pending = s.pending := rfl

/-! ### setDesk -/

@[simp] theorem State.setDesk_ctp (n : Nat) (f : DeskEntry → DeskEntry) : (s.setDesk n f).ctp = s.ctp := rfl
@[simp] theorem State.setDesk_ptu (n : Nat) (f : DeskEntry → DeskEntry) : (s.setDesk n f).ptu = s.ptu := rfl
@[simp] theorem State.setDesk_slc (n : Nat) (f : DeskEntry → DeskEntry) :
    (s.setDesk n f).slc = { s.slc with seats := s.slc.seats.modify n fun t => { t with desk := f t.desk } } := rfl
@[simp] theorem State.setDesk_flc (n : Nat) (f : DeskEntry → DeskEntry) : (s.setDesk n f).flc = s.flc := rfl
@[simp] theorem State.setDesk_lgr (n : Nat) (f : DeskEntry → DeskEntry) : (s.setDesk n f).lgr = s.lgr := rfl
@[simp] theorem State.setDesk_mxe (n : Nat) (f : DeskEntry → DeskEntry) : (s.setDesk n f).mxe = s.mxe := rfl
@[simp] theorem State.setDesk_sts (n : Nat) (f : DeskEntry → DeskEntry) : (s.setDesk n f).sts = s.sts := rfl
@[simp] theorem State.setDesk_stamp (n : Nat) (f : DeskEntry → DeskEntry) :
    (s.setDesk n f).stamp = s.stamp := rfl
@[simp] theorem State.setDesk_powered (n : Nat) (f : DeskEntry → DeskEntry) :
    (s.setDesk n f).powered = s.powered := rfl
@[simp] theorem State.setDesk_resetLow (n : Nat) (f : DeskEntry → DeskEntry) :
    (s.setDesk n f).resetLow = s.resetLow := rfl
@[simp] theorem State.setDesk_started (n : Nat) (f : DeskEntry → DeskEntry) :
    (s.setDesk n f).started = s.started := rfl
@[simp] theorem State.setDesk_pending (n : Nat) (f : DeskEntry → DeskEntry) :
    (s.setDesk n f).pending = s.pending := rfl

/-! ### addTalk -/

@[simp] theorem State.addTalk_ctp (n m : Nat) : (s.addTalk n m).ctp = s.ctp := rfl
@[simp] theorem State.addTalk_ptu (n m : Nat) : (s.addTalk n m).ptu = s.ptu := rfl
@[simp] theorem State.addTalk_flc (n m : Nat) : (s.addTalk n m).flc = s.flc := rfl
@[simp] theorem State.addTalk_lgr (n m : Nat) : (s.addTalk n m).lgr = s.lgr := rfl
@[simp] theorem State.addTalk_mxe (n m : Nat) : (s.addTalk n m).mxe = s.mxe := rfl
@[simp] theorem State.addTalk_sts (n m : Nat) : (s.addTalk n m).sts = s.sts := rfl
@[simp] theorem State.addTalk_stamp (n m : Nat) : (s.addTalk n m).stamp = s.stamp := rfl
@[simp] theorem State.addTalk_powered (n m : Nat) : (s.addTalk n m).powered = s.powered := rfl
@[simp] theorem State.addTalk_resetLow (n m : Nat) : (s.addTalk n m).resetLow = s.resetLow := rfl
@[simp] theorem State.addTalk_started (n m : Nat) : (s.addTalk n m).started = s.started := rfl
@[simp] theorem State.addTalk_pending (n m : Nat) : (s.addTalk n m).pending = s.pending := rfl

/-! ### flash -/

@[simp] theorem State.flash_ctp (n : Nat) : (s.flash n).ctp = s.ctp := rfl
@[simp] theorem State.flash_ptu (n : Nat) : (s.flash n).ptu = s.ptu := rfl
@[simp] theorem State.flash_slc (n : Nat) :
    (s.flash n).slc = { s.slc with seats := s.slc.seats.modify n fun t => { t with flash := some Config.flashFrames } } := rfl
@[simp] theorem State.flash_flc (n : Nat) : (s.flash n).flc = s.flc := rfl
@[simp] theorem State.flash_lgr (n : Nat) : (s.flash n).lgr = s.lgr := rfl
@[simp] theorem State.flash_mxe (n : Nat) : (s.flash n).mxe = s.mxe := rfl
@[simp] theorem State.flash_sts (n : Nat) : (s.flash n).sts = s.sts := rfl
@[simp] theorem State.flash_stamp (n : Nat) : (s.flash n).stamp = s.stamp := rfl
@[simp] theorem State.flash_powered (n : Nat) : (s.flash n).powered = s.powered := rfl
@[simp] theorem State.flash_resetLow (n : Nat) : (s.flash n).resetLow = s.resetLow := rfl
@[simp] theorem State.flash_started (n : Nat) : (s.flash n).started = s.started := rfl
@[simp] theorem State.flash_pending (n : Nat) : (s.flash n).pending = s.pending := rfl

/-! ### mapSpeakers -/

@[simp] theorem State.mapSpeakers_ctp (f : Speaker → Speaker) : (s.mapSpeakers f).ctp = s.ctp := rfl
@[simp] theorem State.mapSpeakers_ptu (f : Speaker → Speaker) : (s.mapSpeakers f).ptu = s.ptu := rfl
@[simp] theorem State.mapSpeakers_slc (f : Speaker → Speaker) : (s.mapSpeakers f).slc = s.slc := rfl
@[simp] theorem State.mapSpeakers_flc (f : Speaker → Speaker) :
    (s.mapSpeakers f).flc = { s.flc with speakers := s.flc.speakers.map f } := rfl
@[simp] theorem State.mapSpeakers_lgr (f : Speaker → Speaker) : (s.mapSpeakers f).lgr = s.lgr := rfl
@[simp] theorem State.mapSpeakers_mxe (f : Speaker → Speaker) : (s.mapSpeakers f).mxe = s.mxe := rfl
@[simp] theorem State.mapSpeakers_sts (f : Speaker → Speaker) : (s.mapSpeakers f).sts = s.sts := rfl
@[simp] theorem State.mapSpeakers_stamp (f : Speaker → Speaker) : (s.mapSpeakers f).stamp = s.stamp := rfl
@[simp] theorem State.mapSpeakers_powered (f : Speaker → Speaker) :
    (s.mapSpeakers f).powered = s.powered := rfl
@[simp] theorem State.mapSpeakers_resetLow (f : Speaker → Speaker) :
    (s.mapSpeakers f).resetLow = s.resetLow := rfl
@[simp] theorem State.mapSpeakers_started (f : Speaker → Speaker) :
    (s.mapSpeakers f).started = s.started := rfl
@[simp] theorem State.mapSpeakers_pending (f : Speaker → Speaker) :
    (s.mapSpeakers f).pending = s.pending := rfl

/-! ### setSpeaker -/

@[simp] theorem State.setSpeaker_ctp (n : Nat) (f : Speaker → Speaker) : (s.setSpeaker n f).ctp = s.ctp := rfl
@[simp] theorem State.setSpeaker_ptu (n : Nat) (f : Speaker → Speaker) : (s.setSpeaker n f).ptu = s.ptu := rfl
@[simp] theorem State.setSpeaker_slc (n : Nat) (f : Speaker → Speaker) : (s.setSpeaker n f).slc = s.slc := rfl
@[simp] theorem State.setSpeaker_flc (n : Nat) (f : Speaker → Speaker) :
    (s.setSpeaker n f).flc = { s.flc with speakers := s.flc.speakers.map fun e => if e.seat == n then f e else e } := rfl
@[simp] theorem State.setSpeaker_lgr (n : Nat) (f : Speaker → Speaker) : (s.setSpeaker n f).lgr = s.lgr := rfl
@[simp] theorem State.setSpeaker_mxe (n : Nat) (f : Speaker → Speaker) : (s.setSpeaker n f).mxe = s.mxe := rfl
@[simp] theorem State.setSpeaker_sts (n : Nat) (f : Speaker → Speaker) : (s.setSpeaker n f).sts = s.sts := rfl
@[simp] theorem State.setSpeaker_stamp (n : Nat) (f : Speaker → Speaker) :
    (s.setSpeaker n f).stamp = s.stamp := rfl
@[simp] theorem State.setSpeaker_powered (n : Nat) (f : Speaker → Speaker) :
    (s.setSpeaker n f).powered = s.powered := rfl
@[simp] theorem State.setSpeaker_resetLow (n : Nat) (f : Speaker → Speaker) :
    (s.setSpeaker n f).resetLow = s.resetLow := rfl
@[simp] theorem State.setSpeaker_started (n : Nat) (f : Speaker → Speaker) :
    (s.setSpeaker n f).started = s.started := rfl
@[simp] theorem State.setSpeaker_pending (n : Nat) (f : Speaker → Speaker) :
    (s.setSpeaker n f).pending = s.pending := rfl

/-! ### muteRoom -/

@[simp] theorem State.muteRoom_ctp (lead : Nat) : (s.muteRoom lead).ctp = s.ctp := rfl
@[simp] theorem State.muteRoom_ptu (lead : Nat) : (s.muteRoom lead).ptu = s.ptu := rfl
@[simp] theorem State.muteRoom_slc (lead : Nat) : (s.muteRoom lead).slc = s.slc := rfl
@[simp] theorem State.muteRoom_lgr (lead : Nat) : (s.muteRoom lead).lgr = s.lgr := rfl
@[simp] theorem State.muteRoom_mxe (lead : Nat) : (s.muteRoom lead).mxe = s.mxe := rfl
@[simp] theorem State.muteRoom_sts (lead : Nat) : (s.muteRoom lead).sts = s.sts := rfl
@[simp] theorem State.muteRoom_stamp (lead : Nat) : (s.muteRoom lead).stamp = s.stamp := rfl
@[simp] theorem State.muteRoom_powered (lead : Nat) : (s.muteRoom lead).powered = s.powered := rfl
@[simp] theorem State.muteRoom_resetLow (lead : Nat) : (s.muteRoom lead).resetLow = s.resetLow := rfl
@[simp] theorem State.muteRoom_started (lead : Nat) : (s.muteRoom lead).started = s.started := rfl
@[simp] theorem State.muteRoom_pending (lead : Nat) : (s.muteRoom lead).pending = s.pending := rfl

/-! ### unmuteRoom -/

@[simp] theorem State.unmuteRoom_ctp (lead : Nat) : (s.unmuteRoom lead).ctp = s.ctp := rfl
@[simp] theorem State.unmuteRoom_ptu (lead : Nat) : (s.unmuteRoom lead).ptu = s.ptu := rfl
@[simp] theorem State.unmuteRoom_slc (lead : Nat) : (s.unmuteRoom lead).slc = s.slc := rfl
@[simp] theorem State.unmuteRoom_lgr (lead : Nat) : (s.unmuteRoom lead).lgr = s.lgr := rfl
@[simp] theorem State.unmuteRoom_mxe (lead : Nat) : (s.unmuteRoom lead).mxe = s.mxe := rfl
@[simp] theorem State.unmuteRoom_sts (lead : Nat) : (s.unmuteRoom lead).sts = s.sts := rfl
@[simp] theorem State.unmuteRoom_stamp (lead : Nat) : (s.unmuteRoom lead).stamp = s.stamp := rfl
@[simp] theorem State.unmuteRoom_powered (lead : Nat) : (s.unmuteRoom lead).powered = s.powered := rfl
@[simp] theorem State.unmuteRoom_resetLow (lead : Nat) : (s.unmuteRoom lead).resetLow = s.resetLow := rfl
@[simp] theorem State.unmuteRoom_started (lead : Nat) : (s.unmuteRoom lead).started = s.started := rfl
@[simp] theorem State.unmuteRoom_pending (lead : Nat) : (s.unmuteRoom lead).pending = s.pending := rfl

/-! ### setHolders -/

@[simp] theorem State.setHolders_ctp (hs : List Nat) : (s.setHolders hs).ctp = s.ctp := rfl
@[simp] theorem State.setHolders_ptu (hs : List Nat) : (s.setHolders hs).ptu = s.ptu := rfl
@[simp] theorem State.setHolders_slc (hs : List Nat) : (s.setHolders hs).slc = s.slc := rfl
@[simp] theorem State.setHolders_flc (hs : List Nat) :
    (s.setHolders hs).flc = { s.flc with holders := hs } := rfl
@[simp] theorem State.setHolders_lgr (hs : List Nat) : (s.setHolders hs).lgr = s.lgr := rfl
@[simp] theorem State.setHolders_mxe (hs : List Nat) : (s.setHolders hs).mxe = s.mxe := rfl
@[simp] theorem State.setHolders_sts (hs : List Nat) : (s.setHolders hs).sts = s.sts := rfl
@[simp] theorem State.setHolders_stamp (hs : List Nat) : (s.setHolders hs).stamp = s.stamp := rfl
@[simp] theorem State.setHolders_powered (hs : List Nat) : (s.setHolders hs).powered = s.powered := rfl
@[simp] theorem State.setHolders_resetLow (hs : List Nat) : (s.setHolders hs).resetLow = s.resetLow := rfl
@[simp] theorem State.setHolders_started (hs : List Nat) : (s.setHolders hs).started = s.started := rfl
@[simp] theorem State.setHolders_pending (hs : List Nat) : (s.setHolders hs).pending = s.pending := rfl

/-! ### setChannel -/

@[simp] theorem State.setChannel_ctp (c : Nat) (f : Channel → Channel) : (s.setChannel c f).ctp = s.ctp := rfl
@[simp] theorem State.setChannel_ptu (c : Nat) (f : Channel → Channel) : (s.setChannel c f).ptu = s.ptu := rfl
@[simp] theorem State.setChannel_slc (c : Nat) (f : Channel → Channel) : (s.setChannel c f).slc = s.slc := rfl
@[simp] theorem State.setChannel_flc (c : Nat) (f : Channel → Channel) : (s.setChannel c f).flc = s.flc := rfl
@[simp] theorem State.setChannel_lgr (c : Nat) (f : Channel → Channel) :
    (s.setChannel c f).lgr = { s.lgr with channels := s.lgr.channels.modify (c - 1) f } := rfl
@[simp] theorem State.setChannel_mxe (c : Nat) (f : Channel → Channel) : (s.setChannel c f).mxe = s.mxe := rfl
@[simp] theorem State.setChannel_sts (c : Nat) (f : Channel → Channel) : (s.setChannel c f).sts = s.sts := rfl
@[simp] theorem State.setChannel_stamp (c : Nat) (f : Channel → Channel) :
    (s.setChannel c f).stamp = s.stamp := rfl
@[simp] theorem State.setChannel_powered (c : Nat) (f : Channel → Channel) :
    (s.setChannel c f).powered = s.powered := rfl
@[simp] theorem State.setChannel_resetLow (c : Nat) (f : Channel → Channel) :
    (s.setChannel c f).resetLow = s.resetLow := rfl
@[simp] theorem State.setChannel_started (c : Nat) (f : Channel → Channel) :
    (s.setChannel c f).started = s.started := rfl
@[simp] theorem State.setChannel_pending (c : Nat) (f : Channel → Channel) :
    (s.setChannel c f).pending = s.pending := rfl

/-! ### setBooth -/

@[simp] theorem State.setBooth_ctp (b : Nat) (f : Booth → Booth) : (s.setBooth b f).ctp = s.ctp := rfl
@[simp] theorem State.setBooth_ptu (b : Nat) (f : Booth → Booth) : (s.setBooth b f).ptu = s.ptu := rfl
@[simp] theorem State.setBooth_slc (b : Nat) (f : Booth → Booth) : (s.setBooth b f).slc = s.slc := rfl
@[simp] theorem State.setBooth_flc (b : Nat) (f : Booth → Booth) : (s.setBooth b f).flc = s.flc := rfl
@[simp] theorem State.setBooth_lgr (b : Nat) (f : Booth → Booth) :
    (s.setBooth b f).lgr = { s.lgr with booths := s.lgr.booths.modify (b - 1) f } := rfl
@[simp] theorem State.setBooth_mxe (b : Nat) (f : Booth → Booth) : (s.setBooth b f).mxe = s.mxe := rfl
@[simp] theorem State.setBooth_sts (b : Nat) (f : Booth → Booth) : (s.setBooth b f).sts = s.sts := rfl
@[simp] theorem State.setBooth_stamp (b : Nat) (f : Booth → Booth) : (s.setBooth b f).stamp = s.stamp := rfl
@[simp] theorem State.setBooth_powered (b : Nat) (f : Booth → Booth) :
    (s.setBooth b f).powered = s.powered := rfl
@[simp] theorem State.setBooth_resetLow (b : Nat) (f : Booth → Booth) :
    (s.setBooth b f).resetLow = s.resetLow := rfl
@[simp] theorem State.setBooth_started (b : Nat) (f : Booth → Booth) :
    (s.setBooth b f).started = s.started := rfl
@[simp] theorem State.setBooth_pending (b : Nat) (f : Booth → Booth) :
    (s.setBooth b f).pending = s.pending := rfl

/-! ### setMonitor -/

@[simp] theorem State.setMonitor_ctp (m : Nat) (r : Route) : (s.setMonitor m r).ctp = s.ctp := rfl
@[simp] theorem State.setMonitor_ptu (m : Nat) (r : Route) : (s.setMonitor m r).ptu = s.ptu := rfl
@[simp] theorem State.setMonitor_slc (m : Nat) (r : Route) : (s.setMonitor m r).slc = s.slc := rfl
@[simp] theorem State.setMonitor_flc (m : Nat) (r : Route) : (s.setMonitor m r).flc = s.flc := rfl
@[simp] theorem State.setMonitor_lgr (m : Nat) (r : Route) :
    (s.setMonitor m r).lgr = { s.lgr with monitors := s.lgr.monitors.set (m - 1) r } := rfl
@[simp] theorem State.setMonitor_mxe (m : Nat) (r : Route) : (s.setMonitor m r).mxe = s.mxe := rfl
@[simp] theorem State.setMonitor_sts (m : Nat) (r : Route) : (s.setMonitor m r).sts = s.sts := rfl
@[simp] theorem State.setMonitor_stamp (m : Nat) (r : Route) : (s.setMonitor m r).stamp = s.stamp := rfl
@[simp] theorem State.setMonitor_powered (m : Nat) (r : Route) : (s.setMonitor m r).powered = s.powered := rfl
@[simp] theorem State.setMonitor_resetLow (m : Nat) (r : Route) :
    (s.setMonitor m r).resetLow = s.resetLow := rfl
@[simp] theorem State.setMonitor_started (m : Nat) (r : Route) : (s.setMonitor m r).started = s.started := rfl
@[simp] theorem State.setMonitor_pending (m : Nat) (r : Route) : (s.setMonitor m r).pending = s.pending := rfl

/-! ### notify -/

@[simp] theorem State.notify_ctp (n : Notice) : (s.notify n).ctp = s.ctp.notify n := rfl
@[simp] theorem State.notify_ptu (n : Notice) : (s.notify n).ptu = s.ptu := rfl
@[simp] theorem State.notify_slc (n : Notice) : (s.notify n).slc = s.slc := rfl
@[simp] theorem State.notify_flc (n : Notice) : (s.notify n).flc = s.flc := rfl
@[simp] theorem State.notify_lgr (n : Notice) : (s.notify n).lgr = s.lgr := rfl
@[simp] theorem State.notify_mxe (n : Notice) : (s.notify n).mxe = s.mxe := rfl
@[simp] theorem State.notify_sts (n : Notice) : (s.notify n).sts = s.sts := rfl
@[simp] theorem State.notify_stamp (n : Notice) : (s.notify n).stamp = s.stamp := rfl
@[simp] theorem State.notify_powered (n : Notice) : (s.notify n).powered = s.powered := rfl
@[simp] theorem State.notify_resetLow (n : Notice) : (s.notify n).resetLow = s.resetLow := rfl
@[simp] theorem State.notify_started (n : Notice) : (s.notify n).started = s.started := rfl
@[simp] theorem State.notify_pending (n : Notice) : (s.notify n).pending = s.pending := rfl

/-! ### queueReplies -/

@[simp] theorem State.queueReplies_ctp (fs : List Frame) :
    (s.queueReplies fs).ctp = fs.foldl Ctp.queueReply s.ctp := rfl
@[simp] theorem State.queueReplies_ptu (fs : List Frame) : (s.queueReplies fs).ptu = s.ptu := rfl
@[simp] theorem State.queueReplies_slc (fs : List Frame) : (s.queueReplies fs).slc = s.slc := rfl
@[simp] theorem State.queueReplies_flc (fs : List Frame) : (s.queueReplies fs).flc = s.flc := rfl
@[simp] theorem State.queueReplies_lgr (fs : List Frame) : (s.queueReplies fs).lgr = s.lgr := rfl
@[simp] theorem State.queueReplies_mxe (fs : List Frame) : (s.queueReplies fs).mxe = s.mxe := rfl
@[simp] theorem State.queueReplies_sts (fs : List Frame) : (s.queueReplies fs).sts = s.sts := rfl
@[simp] theorem State.queueReplies_stamp (fs : List Frame) : (s.queueReplies fs).stamp = s.stamp := rfl
@[simp] theorem State.queueReplies_powered (fs : List Frame) : (s.queueReplies fs).powered = s.powered := rfl
@[simp] theorem State.queueReplies_resetLow (fs : List Frame) :
    (s.queueReplies fs).resetLow = s.resetLow := rfl
@[simp] theorem State.queueReplies_started (fs : List Frame) : (s.queueReplies fs).started = s.started := rfl
@[simp] theorem State.queueReplies_pending (fs : List Frame) : (s.queueReplies fs).pending = s.pending := rfl

/-! ### markInbound -/

@[simp] theorem State.markInbound_ctp :
    (s.markInbound).ctp = { s.ctp with transfer := s.ctp.transfer.map fun t => { t with inboundDone := true } } := rfl
@[simp] theorem State.markInbound_ptu : (s.markInbound).ptu = s.ptu := rfl
@[simp] theorem State.markInbound_slc : (s.markInbound).slc = s.slc := rfl
@[simp] theorem State.markInbound_flc : (s.markInbound).flc = s.flc := rfl
@[simp] theorem State.markInbound_lgr : (s.markInbound).lgr = s.lgr := rfl
@[simp] theorem State.markInbound_mxe : (s.markInbound).mxe = s.mxe := rfl
@[simp] theorem State.markInbound_sts : (s.markInbound).sts = s.sts := rfl
@[simp] theorem State.markInbound_stamp : (s.markInbound).stamp = s.stamp := rfl
@[simp] theorem State.markInbound_powered : (s.markInbound).powered = s.powered := rfl
@[simp] theorem State.markInbound_resetLow : (s.markInbound).resetLow = s.resetLow := rfl
@[simp] theorem State.markInbound_started : (s.markInbound).started = s.started := rfl
@[simp] theorem State.markInbound_pending : (s.markInbound).pending = s.pending := rfl

/-! ### restartAbsence -/

@[simp] theorem State.restartAbsence_ctp : (s.restartAbsence).ctp = { s.ctp with absenceFrames := 0 } := rfl
@[simp] theorem State.restartAbsence_ptu : (s.restartAbsence).ptu = s.ptu := rfl
@[simp] theorem State.restartAbsence_slc : (s.restartAbsence).slc = s.slc := rfl
@[simp] theorem State.restartAbsence_flc : (s.restartAbsence).flc = s.flc := rfl
@[simp] theorem State.restartAbsence_lgr : (s.restartAbsence).lgr = s.lgr := rfl
@[simp] theorem State.restartAbsence_mxe : (s.restartAbsence).mxe = s.mxe := rfl
@[simp] theorem State.restartAbsence_sts : (s.restartAbsence).sts = s.sts := rfl
@[simp] theorem State.restartAbsence_stamp : (s.restartAbsence).stamp = s.stamp := rfl
@[simp] theorem State.restartAbsence_powered : (s.restartAbsence).powered = s.powered := rfl
@[simp] theorem State.restartAbsence_resetLow : (s.restartAbsence).resetLow = s.resetLow := rfl
@[simp] theorem State.restartAbsence_started : (s.restartAbsence).started = s.started := rfl
@[simp] theorem State.restartAbsence_pending : (s.restartAbsence).pending = s.pending := rfl

/-! ### setAttn -/

@[simp] theorem State.setAttn_ptu (a : AttnSettings) : (s.setAttn a).ptu = s.ptu := rfl
@[simp] theorem State.setAttn_slc (a : AttnSettings) : (s.setAttn a).slc = s.slc := rfl
@[simp] theorem State.setAttn_flc (a : AttnSettings) : (s.setAttn a).flc = s.flc := rfl
@[simp] theorem State.setAttn_lgr (a : AttnSettings) : (s.setAttn a).lgr = s.lgr := rfl
@[simp] theorem State.setAttn_mxe (a : AttnSettings) : (s.setAttn a).mxe = s.mxe := rfl
@[simp] theorem State.setAttn_sts (a : AttnSettings) : (s.setAttn a).sts = s.sts := rfl
@[simp] theorem State.setAttn_stamp (a : AttnSettings) : (s.setAttn a).stamp = s.stamp := rfl
@[simp] theorem State.setAttn_powered (a : AttnSettings) : (s.setAttn a).powered = s.powered := rfl
@[simp] theorem State.setAttn_resetLow (a : AttnSettings) : (s.setAttn a).resetLow = s.resetLow := rfl
@[simp] theorem State.setAttn_started (a : AttnSettings) : (s.setAttn a).started = s.started := rfl
@[simp] theorem State.setAttn_pending (a : AttnSettings) : (s.setAttn a).pending = s.pending := rfl

/-! ### issueStamp -/

@[simp] theorem State.issueStamp_ctp : (s.issueStamp).ctp = s.ctp := rfl
@[simp] theorem State.issueStamp_ptu : (s.issueStamp).ptu = s.ptu := rfl
@[simp] theorem State.issueStamp_slc : (s.issueStamp).slc = s.slc := rfl
@[simp] theorem State.issueStamp_flc : (s.issueStamp).flc = s.flc := rfl
@[simp] theorem State.issueStamp_lgr : (s.issueStamp).lgr = s.lgr := rfl
@[simp] theorem State.issueStamp_mxe : (s.issueStamp).mxe = s.mxe := rfl
@[simp] theorem State.issueStamp_sts : (s.issueStamp).sts = s.sts := rfl
@[simp] theorem State.issueStamp_stamp : (s.issueStamp).stamp = nextStamp s.stamp := rfl
@[simp] theorem State.issueStamp_powered : (s.issueStamp).powered = s.powered := rfl
@[simp] theorem State.issueStamp_resetLow : (s.issueStamp).resetLow = s.resetLow := rfl
@[simp] theorem State.issueStamp_started : (s.issueStamp).started = s.started := rfl
@[simp] theorem State.issueStamp_pending : (s.issueStamp).pending = s.pending := rfl

/-! ### refreshMix -/

@[simp] theorem State.refreshMix_ctp (lead : Nat) : (s.refreshMix lead).ctp = s.ctp := rfl
@[simp] theorem State.refreshMix_ptu (lead : Nat) : (s.refreshMix lead).ptu = s.ptu := rfl
@[simp] theorem State.refreshMix_slc (lead : Nat) : (s.refreshMix lead).slc = s.slc := rfl
@[simp] theorem State.refreshMix_flc (lead : Nat) : (s.refreshMix lead).flc = s.flc := rfl
@[simp] theorem State.refreshMix_lgr (lead : Nat) : (s.refreshMix lead).lgr = s.lgr := rfl
@[simp] theorem State.refreshMix_sts (lead : Nat) : (s.refreshMix lead).sts = s.sts := rfl
@[simp] theorem State.refreshMix_stamp (lead : Nat) : (s.refreshMix lead).stamp = s.stamp := rfl
@[simp] theorem State.refreshMix_powered (lead : Nat) : (s.refreshMix lead).powered = s.powered := rfl
@[simp] theorem State.refreshMix_resetLow (lead : Nat) : (s.refreshMix lead).resetLow = s.resetLow := rfl
@[simp] theorem State.refreshMix_started (lead : Nat) : (s.refreshMix lead).started = s.started := rfl
@[simp] theorem State.refreshMix_pending (lead : Nat) : (s.refreshMix lead).pending = s.pending := rfl

/-! ### setBegun -/

@[simp] theorem State.setBegun_ctp (b : Bool) : (s.setBegun b).ctp = s.ctp := rfl
@[simp] theorem State.setBegun_ptu (b : Bool) : (s.setBegun b).ptu = s.ptu := rfl
@[simp] theorem State.setBegun_slc (b : Bool) : (s.setBegun b).slc = s.slc := rfl
@[simp] theorem State.setBegun_flc (b : Bool) : (s.setBegun b).flc = s.flc := rfl
@[simp] theorem State.setBegun_lgr (b : Bool) : (s.setBegun b).lgr = s.lgr := rfl
@[simp] theorem State.setBegun_mxe (b : Bool) : (s.setBegun b).mxe = { s.mxe with begun := b } := rfl
@[simp] theorem State.setBegun_sts (b : Bool) : (s.setBegun b).sts = s.sts := rfl
@[simp] theorem State.setBegun_stamp (b : Bool) : (s.setBegun b).stamp = s.stamp := rfl
@[simp] theorem State.setBegun_powered (b : Bool) : (s.setBegun b).powered = s.powered := rfl
@[simp] theorem State.setBegun_resetLow (b : Bool) : (s.setBegun b).resetLow = s.resetLow := rfl
@[simp] theorem State.setBegun_started (b : Bool) : (s.setBegun b).started = s.started := rfl
@[simp] theorem State.setBegun_pending (b : Bool) : (s.setBegun b).pending = s.pending := rfl

/-! ### clearClips -/

@[simp] theorem State.clearClips_ctp : (s.clearClips).ctp = s.ctp := rfl
@[simp] theorem State.clearClips_ptu : (s.clearClips).ptu = s.ptu := rfl
@[simp] theorem State.clearClips_slc : (s.clearClips).slc = s.slc := rfl
@[simp] theorem State.clearClips_flc : (s.clearClips).flc = s.flc := rfl
@[simp] theorem State.clearClips_lgr : (s.clearClips).lgr = s.lgr := rfl
@[simp] theorem State.clearClips_sts : (s.clearClips).sts = s.sts := rfl
@[simp] theorem State.clearClips_stamp : (s.clearClips).stamp = s.stamp := rfl
@[simp] theorem State.clearClips_powered : (s.clearClips).powered = s.powered := rfl
@[simp] theorem State.clearClips_resetLow : (s.clearClips).resetLow = s.resetLow := rfl
@[simp] theorem State.clearClips_started : (s.clearClips).started = s.started := rfl
@[simp] theorem State.clearClips_pending : (s.clearClips).pending = s.pending := rfl

end Sys2Proof.Machine
end

