-- ==== Sys2Proof/Laws/Port.lean ====
section
/-! SUPPORT. What the shared operations of the control port do: a notice, a reply, the hearing of a valid frame and the taking
of a command, each said once. -/

namespace Sys2Proof.Machine

/-! ### Notices -/

/-- A pending pulse that is added changes the pulse count alone. -/
theorem Ctp.addPulse_spec (c : Ctp) :
    c.addPulse = { c with pulses := if c.pulsing then min 64 (c.pulses + 1) else c.pulses } := by
  unfold Ctp.addPulse; split <;> rfl

/-- A notice is left out, queued at the tail, or counted as lost (R192). -/
theorem Ctp.notify_cases (c : Ctp) (n : Notice) :
    (classEnabled c.mask n.cls = false ∧ c.notify n = c) ∨
    (classEnabled c.mask n.cls = true ∧ c.notices.length < 56 ∧
      c.notify n = ({ c with notices := c.notices ++ [n] }).addPulse) ∨
    (classEnabled c.mask n.cls = true ∧ 56 ≤ c.notices.length ∧
      c.notify n = { c with loss := min 255 (c.loss + 1) }) := by
  unfold Ctp.notify
  cases h : classEnabled c.mask n.cls
  · exact .inl ⟨rfl, rfl⟩
  · by_cases h2 : c.notices.length < 56
    · exact .inr (.inl ⟨rfl, h2, by simp [Config.noticePlaces, h2]⟩)
    · exact .inr (.inr ⟨rfl, by omega, by simp [Config.noticePlaces, h2, Config.lossMax]⟩)

section
variable (c : Ctp) (n : Notice)

@[simp] theorem Ctp.addPulse_mask : c.addPulse.mask = c.mask := by rw [Ctp.addPulse_spec]
@[simp] theorem Ctp.addPulse_attn : c.addPulse.attn = c.attn := by rw [Ctp.addPulse_spec]
@[simp] theorem Ctp.addPulse_pulse : c.addPulse.pulse = c.pulse := by rw [Ctp.addPulse_spec]
@[simp] theorem Ctp.addPulse_period : c.addPulse.period = c.period := by rw [Ctp.addPulse_spec]
@[simp] theorem Ctp.addPulse_absenceFrames : c.addPulse.absenceFrames = c.absenceFrames := by rw [Ctp.addPulse_spec]
@[simp] theorem Ctp.addPulse_autonomous : c.addPulse.autonomous = c.autonomous := by rw [Ctp.addPulse_spec]
@[simp] theorem Ctp.addPulse_replies : c.addPulse.replies = c.replies := by rw [Ctp.addPulse_spec]
@[simp] theorem Ctp.addPulse_notices : c.addPulse.notices = c.notices := by rw [Ctp.addPulse_spec]
@[simp] theorem Ctp.addPulse_loss : c.addPulse.loss = c.loss := by rw [Ctp.addPulse_spec]
@[simp] theorem Ctp.addPulse_transfer : c.addPulse.transfer = c.transfer := by rw [Ctp.addPulse_spec]

@[simp] theorem Ctp.notify_mask : (c.notify n).mask = c.mask := by
  rcases c.notify_cases n with h | ⟨_, _, h⟩ | ⟨_, _, h⟩ <;> simp [h]
@[simp] theorem Ctp.notify_attn : (c.notify n).attn = c.attn := by
  rcases c.notify_cases n with h | ⟨_, _, h⟩ | ⟨_, _, h⟩ <;> simp [h]
@[simp] theorem Ctp.notify_pulse : (c.notify n).pulse = c.pulse := by
  rcases c.notify_cases n with h | ⟨_, _, h⟩ | ⟨_, _, h⟩ <;> simp [h]
@[simp] theorem Ctp.notify_period : (c.notify n).period = c.period := by
  rcases c.notify_cases n with h | ⟨_, _, h⟩ | ⟨_, _, h⟩ <;> simp [h]
@[simp] theorem Ctp.notify_absenceFrames : (c.notify n).absenceFrames = c.absenceFrames := by
  rcases c.notify_cases n with h | ⟨_, _, h⟩ | ⟨_, _, h⟩ <;> simp [h]
@[simp] theorem Ctp.notify_autonomous : (c.notify n).autonomous = c.autonomous := by
  rcases c.notify_cases n with h | ⟨_, _, h⟩ | ⟨_, _, h⟩ <;> simp [h]
@[simp] theorem Ctp.notify_replies : (c.notify n).replies = c.replies := by
  rcases c.notify_cases n with h | ⟨_, _, h⟩ | ⟨_, _, h⟩ <;> simp [h]
@[simp] theorem Ctp.notify_transfer : (c.notify n).transfer = c.transfer := by
  rcases c.notify_cases n with h | ⟨_, _, h⟩ | ⟨_, _, h⟩ <;> simp [h]

end

/-! ### Replies -/

section
variable (s : State) (fs : List Frame)

/-- Replies join the tail of the reply queue, and nothing but the queue and the pending pulses changes (R187, R191, R197). -/
theorem State.queueReplies_spec :
    s.queueReplies fs = { s with ctp := { s.ctp with
      replies := s.ctp.replies ++ fs, pulses := (s.queueReplies fs).ctp.pulses } } := by
  unfold State.queueReplies
  have h : ∀ (fs : List Frame) (c : Ctp), fs.foldl Ctp.queueReply c =
      { c with replies := c.replies ++ fs, pulses := (fs.foldl Ctp.queueReply c).pulses } := by
    intro fs
    induction fs with
    | nil => intro c; simp
    | cons f fs ih =>
      intro c
      rw [List.foldl_cons, ih]
      simp [Ctp.queueReply, Ctp.addPulse_spec]
  simp only
  rw [h fs s.ctp]

@[simp] theorem State.queueReplies_replies : (s.queueReplies fs).ctp.replies = s.ctp.replies ++ fs := by
  rw [State.queueReplies_spec]
@[simp] theorem State.queueReplies_notices : (s.queueReplies fs).ctp.notices = s.ctp.notices := by
  rw [State.queueReplies_spec]
@[simp] theorem State.queueReplies_mask : (s.queueReplies fs).ctp.mask = s.ctp.mask := by rw [State.queueReplies_spec]
@[simp] theorem State.queueReplies_attn : (s.queueReplies fs).ctp.attn = s.ctp.attn := by rw [State.queueReplies_spec]
@[simp] theorem State.queueReplies_period : (s.queueReplies fs).ctp.period = s.ctp.period := by
  rw [State.queueReplies_spec]
@[simp] theorem State.queueReplies_absenceFrames : (s.queueReplies fs).ctp.absenceFrames = s.ctp.absenceFrames := by
  rw [State.queueReplies_spec]
@[simp] theorem State.queueReplies_autonomous : (s.queueReplies fs).ctp.autonomous = s.ctp.autonomous := by
  rw [State.queueReplies_spec]
@[simp] theorem State.queueReplies_transfer : (s.queueReplies fs).ctp.transfer = s.ctp.transfer := by
  rw [State.queueReplies_spec]

end

/-! ### Taking a command -/

/-- A held part, or one whose transfer has had its inbound frame, takes no frame (R213, R184). -/
theorem State.takeFrame_ignored {s : State} (h : s.running = false ∨ s.inboundIgnored = true) (kind tag : Byte)
    (body : Action) : s.takeFrame kind tag body = s := by
  rcases h with h | h <;> simp [State.takeFrame, h]

/-- A part that accepts a frame of n places handles it on the heard state (R187). -/
theorem State.takeFrame_accepted {s : State} {n : Nat} (h : Accepts s n) (kind tag : Byte) (body : Action)
    (fits : max 1 ((body s.heard).2.frames kind tag).length ≤ n) :
    s.takeFrame kind tag body = (body s.heard).1.queueReplies ((body s.heard).2.frames kind tag) := by
  have hp := h.places
  have : s.heard.hasRoom (max 1 ((body s.heard).2.frames kind tag).length) = true := by
    simp only [State.hasRoom, decide_eq_true_eq] at hp ⊢; omega
  simp only [State.takeFrame, h.running, h.listening, Bool.not_true, Bool.or_false, Bool.false_eq_true, if_false]
  show s.heard.handle kind tag body = _
  simp only [State.handle, this, if_true]

/-- A command answered with one frame. -/
theorem State.takeFrame_plain {s : State} (h : Accepts s 1) (kind tag : Byte) (body : Action) {t : State}
    {code : ResultCode} {data : List Byte} (hb : body s.heard = (t, .plain code data)) :
    s.takeFrame kind tag body =
      t.queueReplies [{ kind := replyKind kind, tag := tag, payload := code.byte :: data }] := by
  rw [State.takeFrame_accepted h kind tag body (by simp [hb, Reply.frames, Reply.payloads]), hb]; rfl

/-- A command of Table 9-4 answered with a result code alone: OK or a refusal (R188). -/
theorem State.takeFrame_replied {s : State} (h : Accepts s 1) {kind : Byte} (tag : Byte) (body : Action) {t : State}
    {code : ResultCode} (hk : kind.toNat < 0x7F) (hb : body s.heard = (t, .plain code [])) :
    s.takeFrame kind tag body = t.replied kind tag code := by
  rw [State.takeFrame_plain h kind tag body hb]
  simp [State.replied, replyKind, hk]

end Sys2Proof.Machine
end

