-- ==== Sys2Proof/Laws/Floor.lean ====
section
/-! SUPPORT. What the floor controller's procedures leave unchanged, and what they read: each keeps the hall, the lines, the
languages, the mix engine, the store, and every seat but for talk totals and DENIED flashes. -/

namespace Sys2Proof.Machine

/-! ### The frame as a relation -/

theorem SameOutsideFloor.refl (s : State) : SameOutsideFloor s s :=
  ⟨rfl, rfl, rfl, rfl, rfl, rfl, rfl, rfl, rfl, fun _ => rfl, rfl, rfl, rfl, rfl, rfl, rfl, rfl⟩

theorem SameOutsideFloor.trans {s t u : State} (h : SameOutsideFloor s t) (k : SameOutsideFloor t u) :
    SameOutsideFloor s u where
  ptu := k.ptu.trans h.ptu
  lines := k.lines.trans h.lines
  lgr := k.lgr.trans h.lgr
  mxe := k.mxe.trans h.mxe
  sts := k.sts.trans h.sts
  powered := k.powered.trans h.powered
  resetLow := k.resetLow.trans h.resetLow
  started := k.started.trans h.started
  pending := k.pending.trans h.pending
  seats n := (k.seats n).trans (h.seats n)
  replies := k.replies.trans h.replies
  port := ⟨k.port.1.trans h.port.1, k.port.2.1.trans h.port.2.1, k.port.2.2.1.trans h.port.2.2.1,
    k.port.2.2.2.1.trans h.port.2.2.2.1, k.port.2.2.2.2.1.trans h.port.2.2.2.2.1,
    k.port.2.2.2.2.2.trans h.port.2.2.2.2.2⟩

/-- A fold of steps that keep the frame keeps it. -/
theorem SameOutsideFloor.foldl {α : Type} {f : State → α → State} (h : ∀ s a, SameOutsideFloor s (f s a)) (l : List α)
    (s : State) : SameOutsideFloor s (l.foldl f s) := by
  induction l generalizing s with
  | nil => exact .refl s
  | cons a l ih => exact (h s a).trans (ih _)

/-! ### What the frame leaves readable -/

section
variable {s t : State} (h : SameOutsideFloor s t)
include h

theorem SameOutsideFloor.seat_set (n : Nat) : (t.seat n).set = (s.seat n).set := by
  simpa using congrArg Seat.set (h.seats n)
theorem SameOutsideFloor.seat_unit (n : Nat) : (t.seat n).unit = (s.seat n).unit := by
  simpa using congrArg Seat.unit (h.seats n)
theorem SameOutsideFloor.seat_desk (n : Nat) : (t.seat n).desk = (s.seat n).desk := by
  simpa using congrArg Seat.desk (h.seats n)
theorem SameOutsideFloor.seat_listen (n : Nat) : (t.seat n).listen = (s.seat n).listen := by
  simpa using congrArg Seat.listen (h.seats n)
theorem SameOutsideFloor.seat_text (n : Nat) : (t.seat n).text = (s.seat n).text := by
  simpa using congrArg Seat.text (h.seats n)
theorem SameOutsideFloor.seat_miss (n : Nat) : (t.seat n).miss = (s.seat n).miss := by
  simpa using congrArg Seat.miss (h.seats n)

theorem SameOutsideFloor.seat_kind (n : Nat) : (t.seat n).kind = (s.seat n).kind := by
  simp only [Seat.kind, h.seat_unit]
theorem SameOutsideFloor.line (l : Nat) : t.line l = s.line l := by simp only [State.line, h.lines]
theorem SameOutsideFloor.seatActive (n : Nat) : t.seatActive n = s.seatActive n := by
  simp only [State.seatActive, State.lineActive, h.line]
theorem SameOutsideFloor.joins : t.joins = s.joins := by simp only [State.joins, h.ptu]
theorem SameOutsideFloor.roomOf (g : Nat) : t.roomOf g = s.roomOf g := by simp only [State.roomOf, h.joins]
theorem SameOutsideFloor.leads : t.leads = s.leads := by simp only [State.leads, h.joins]
theorem SameOutsideFloor.placement (n : Nat) : t.placement n = s.placement n := by
  simp only [State.placement, h.seat_set]
theorem SameOutsideFloor.seatRoom (n : Nat) : t.seatRoom n = s.seatRoom n := by
  simp only [State.seatRoom, h.placement]
  cases s.placement n <;> simp [h.roomOf]
theorem SameOutsideFloor.seatRoomCode (n : Nat) : t.seatRoomCode n = s.seatRoomCode n := by
  simp only [State.seatRoomCode, h.seatRoom]
theorem SameOutsideFloor.inRoom (lead n : Nat) : t.inRoom lead n = s.inRoom lead n := by
  simp only [State.inRoom, h.seatRoom]
theorem SameOutsideFloor.pool : t.pool = s.pool := by simp only [State.pool, h.sts]
theorem SameOutsideFloor.segment (g : Nat) : t.segment g = s.segment g := by simp only [State.segment, h.ptu]
theorem SameOutsideFloor.settings (lead : Nat) : t.settings lead = s.settings lead := by
  simp only [State.settings, h.segment, h.pool]

end

/-! ### The small updates -/

section
variable (s : State)

theorem State.notify_outsideFloor (n : Notice) : SameOutsideFloor s (s.notify n) :=
  ⟨rfl, rfl, rfl, rfl, rfl, rfl, rfl, rfl, rfl, fun _ => rfl, by simp [State.notify], by simp [State.notify]⟩

/-- An update of the floor records and the stamp count alone keeps the frame. -/
theorem SameOutsideFloor.of_flc (x : Flc) (y : Stamp) : SameOutsideFloor s { s with flc := x, stamp := y } :=
  ⟨rfl, rfl, rfl, rfl, rfl, rfl, rfl, rfl, rfl, fun _ => rfl, rfl, rfl, rfl, rfl, rfl, rfl, rfl⟩

/-- Reading a seat after a write of a seat's talk total or flash. -/
theorem State.setSeat_seat (n m : Nat) (f : Seat → Seat) :
    (s.setSeat n f).seat m = if m = n ∧ n < s.slc.seats.length then f (s.seat m) else s.seat m := by
  unfold State.seat State.setSeat
  simp only [List.getD_eq_getElem?_getD, List.getElem?_modify]
  by_cases h : n = m
  · subst h
    by_cases h2 : n < s.slc.seats.length
    · simp [h2]
    · simp [h2]
  · simp [h, Ne.symm h]

theorem State.addTalk_outsideFloor (n k : Nat) : SameOutsideFloor s (s.addTalk n k) := by
  refine ⟨rfl, rfl, rfl, rfl, rfl, rfl, rfl, rfl, rfl, fun m => ?_, rfl, rfl, rfl, rfl, rfl, rfl, rfl⟩
  unfold State.addTalk; rw [State.setSeat_seat]; split <;> rfl

theorem State.flash_outsideFloor (n : Nat) : SameOutsideFloor s (s.flash n) := by
  refine ⟨rfl, rfl, rfl, rfl, rfl, rfl, rfl, rfl, rfl, fun m => ?_, rfl, rfl, rfl, rfl, rfl, rfl, rfl⟩
  unfold State.flash; rw [State.setSeat_seat]; split <;> rfl

theorem State.mapSpeakers_outsideFloor (f : Speaker → Speaker) : SameOutsideFloor s (s.mapSpeakers f) :=
  .of_flc s _ s.stamp

theorem State.setHolders_outsideFloor (hs : List Nat) : SameOutsideFloor s (s.setHolders hs) := .of_flc s _ s.stamp

theorem State.issueStamp_outsideFloor : SameOutsideFloor s s.issueStamp := .of_flc s s.flc _

/-! ### The procedures -/

theorem State.closeMic_outsideFloor (n : Nat) (c : CloseCause) : SameOutsideFloor s (s.closeMic n c) := by
  unfold State.closeMic
  split
  · exact .refl s
  · exact ((SameOutsideFloor.of_flc s _ s.stamp).trans (State.addTalk_outsideFloor _ _ _)).trans
      (State.notify_outsideFloor _ _)

theorem State.closeMics_outsideFloor (ns : List Nat) (c : CloseCause) : SameOutsideFloor s (s.closeMics ns c) :=
  .foldl (fun t n => State.closeMic_outsideFloor t n c) ns s

theorem State.checkWarning_outsideFloor (n : Nat) (e : Speaker) (t : Template) :
    SameOutsideFloor s (s.checkWarning n e t) := by
  unfold State.checkWarning
  split
  · exact (State.mapSpeakers_outsideFloor _ _).trans (State.notify_outsideFloor _ _)
  · split
    · exact State.mapSpeakers_outsideFloor _ _
    · exact .refl s

theorem State.checkExpiry_outsideFloor (n : Nat) (e : Speaker) (t : Template) (held : Bool) :
    SameOutsideFloor s (s.checkExpiry n e t held) := by
  have told : ∀ m, SameOutsideFloor s (if held then s else s.notify m) := by
    intro m; split
    · exact .refl s
    · exact State.notify_outsideFloor _ _
  unfold State.checkExpiry
  split
  · exact .refl s
  · dsimp only
    split
    · exact (told _).trans (State.closeMic_outsideFloor _ _ _)
    · exact told _

theorem State.timerCheck_outsideFloor (n : Nat) (held : Bool) : SameOutsideFloor s (s.timerCheck n held) := by
  unfold State.timerCheck
  split
  · exact .refl s
  · split
    · exact (State.checkWarning_outsideFloor _ _ _ _).trans (State.checkExpiry_outsideFloor _ _ _ _ _)
    · exact .refl s

theorem State.openMic_outsideFloor (n : Nat) (k : Kind) (o : OpenOrigin) : SameOutsideFloor s (s.openMic n k o) := by
  unfold State.openMic
  exact ((SameOutsideFloor.of_flc s _ _).trans (State.notify_outsideFloor _ _)).trans (State.timerCheck_outsideFloor _ _ _)

theorem State.addRequest_outsideFloor (n : Nat) (c : RequestClass) (x : Stamp) :
    SameOutsideFloor s (s.addRequest n c x) := by
  unfold State.addRequest
  exact (SameOutsideFloor.of_flc s _ s.stamp).trans (State.notify_outsideFloor _ _)

theorem State.addNormal_outsideFloor (n : Nat) : SameOutsideFloor s (s.addNormal n) :=
  (State.issueStamp_outsideFloor s).trans (State.addRequest_outsideFloor _ _ _ _)

theorem State.removeRequest_outsideFloor (n : Nat) (c : RemovalCause) : SameOutsideFloor s (s.removeRequest n c) := by
  unfold State.removeRequest
  split
  · exact .refl s
  · exact (SameOutsideFloor.of_flc s _ s.stamp).trans (State.notify_outsideFloor _ _)

theorem State.removeRequests_outsideFloor (ns : List Nat) (c : RemovalCause) :
    SameOutsideFloor s (s.removeRequests ns c) :=
  .foldl (fun t n => State.removeRequest_outsideFloor t n c) ns s

theorem State.closeDelegates_outsideFloor (lead : Nat) (c : CloseCause) : SameOutsideFloor s (s.closeDelegates lead c) :=
  State.closeMics_outsideFloor _ _ _

theorem State.clearQueue_outsideFloor (lead : Nat) (c : RemovalCause) : SameOutsideFloor s (s.clearQueue lead c) :=
  State.removeRequests_outsideFloor _ _ _

theorem State.refusePress_outsideFloor (n : Nat) (r : ResultCode) : SameOutsideFloor s (s.refusePress n r) :=
  (State.notify_outsideFloor _ _).trans (State.flash_outsideFloor _ _)

theorem State.closeAll_outsideFloor (lead : Nat) : SameOutsideFloor s (s.closeAll lead) :=
  (State.closeDelegates_outsideFloor _ _ _).trans (State.clearQueue_outsideFloor _ _ _)

theorem State.priorityAction_outsideFloor (lead : Nat) : SameOutsideFloor s (s.priorityAction lead) := by
  unfold State.priorityAction
  split
  · exact State.mapSpeakers_outsideFloor _ _
  · exact State.closeAll_outsideFloor _ _

theorem State.endPriority_outsideFloor (lead chair : Nat) : SameOutsideFloor s (s.endPriority lead chair) :=
  (State.mapSpeakers_outsideFloor _ _).trans (State.notify_outsideFloor _ _)

theorem State.leaveHolders_outsideFloor (n : Nat) : SameOutsideFloor s (s.leaveHolders n) := by
  unfold State.leaveHolders
  split
  · dsimp only
    split
    · exact (State.setHolders_outsideFloor _ _).trans (State.endPriority_outsideFloor _ _ _)
    · exact State.setHolders_outsideFloor _ _
  · exact .refl s

theorem State.grant_outsideFloor (n : Nat) : SameOutsideFloor s (s.grant n) :=
  (State.removeRequest_outsideFloor _ _ _).trans (State.openMic_outsideFloor _ _ _ _)

theorem State.advanceUpTo_outsideFloor (fuel : Nat) : SameOutsideFloor s (State.advanceUpTo fuel s) := by
  induction fuel generalizing s with
  | zero => exact .refl s
  | succ fuel ih =>
    unfold State.advanceUpTo
    split
    · split
      · exact .refl s
      · exact (State.grant_outsideFloor _ _).trans (ih _)
    · exact .refl s

/-- The advance rule touches the floor alone (R95). -/
theorem State.advance_outsideFloor : SameOutsideFloor s s.advance := State.advanceUpTo_outsideFloor _ _

theorem State.returnDelegate_outsideFloor (c : CloseCause) (e : Speaker) : SameOutsideFloor s (s.returnDelegate c e) := by
  unfold State.returnDelegate
  split
  · exact State.notify_outsideFloor _ _
  · exact State.addRequest_outsideFloor _ _ _ _

theorem State.closeExcess_outsideFloor (lead : Nat) (c : CloseCause) : SameOutsideFloor s (s.closeExcess lead c) := by
  unfold State.closeExcess
  dsimp only
  split
  · exact (State.closeMics_outsideFloor _ _ _).trans
      (.foldl (f := fun u e => u.returnDelegate c e) (fun t e => State.returnDelegate_outsideFloor t c e) _ _)
  · exact State.closeMics_outsideFloor _ _ _

theorem State.checkRoom_outsideFloor (lead : Nat) (limitOf : Speaker → Nat) :
    SameOutsideFloor s (s.checkRoom lead limitOf) :=
  .foldl (f := fun t e => t.timerCheck e.seat (expiryHolds (limitOf e) e))
    (fun t _ => State.timerCheck_outsideFloor t _ _) _ _

theorem State.clearSeat_outsideFloor (n : Nat) (c : CloseCause) (r : RemovalCause) :
    SameOutsideFloor s (s.clearSeat n c r) :=
  (State.closeMic_outsideFloor _ _ _).trans (State.removeRequest_outsideFloor _ _ _)

theorem State.endEmptied_outsideFloor (old : State) : SameOutsideFloor s (s.endEmptied old) := by
  refine .foldl (fun t lead => ?_) _ _
  split
  · split
    · exact State.endPriority_outsideFloor _ _ _
    · exact .refl t
  · exact .refl t

/-- A line's leaving at the floor controller touches the floor alone (R108). -/
theorem State.floorLineLeaves_outsideFloor (l : Nat) (c : LeaveCause) : SameOutsideFloor s (s.floorLineLeaves l c) := by
  unfold State.floorLineLeaves
  exact (((SameOutsideFloor.foldl (f := fun t n => t.clearSeat n c.close c.removal)
    (fun t n => State.clearSeat_outsideFloor t n _ _) _ _).trans
    (State.setHolders_outsideFloor _ _)).trans (State.endEmptied_outsideFloor _ _)).trans (State.advance_outsideFloor _)

theorem State.applySettings_outsideFloor (lead : Nat) (old : Template) : SameOutsideFloor s (s.applySettings lead old) := by
  unfold State.applySettings
  dsimp only
  generalize hs1 : (if old.mode = .queued ∧ (s.settings lead).mode ≠ .queued then s.clearQueue lead .mode else s) = s1
  have h1 : SameOutsideFloor s s1 := by
    subst hs1; split
    · exact State.clearQueue_outsideFloor _ _ _
    · exact .refl s
  generalize hs2 : (if old.priorityAction = .muteOnly ∧ (s.settings lead).priorityAction = .closeAll ∧
    !(s1.holdersIn lead).isEmpty then s1.closeAll lead else s1) = s2
  have h2 : SameOutsideFloor s s2 := by
    subst hs2; split
    · exact h1.trans (State.closeAll_outsideFloor _ _)
    · exact h1
  generalize hs3 : (if old.limit ≠ (s.settings lead).limit then s2.closeExcess lead .limit else s2) = s3
  have h3 : SameOutsideFloor s s3 := by
    subst hs3; split
    · exact h2.trans (State.closeExcess_outsideFloor _ _ _)
    · exact h2
  split
  · exact h3.trans (State.checkRoom_outsideFloor _ _ _)
  · exact h3

theorem State.displace_outsideFloor (lead n : Nat) : SameOutsideFloor s (s.displace lead n) := by
  unfold State.displace
  split
  · exact State.refusePress_outsideFloor _ _ _
  · exact (State.closeMic_outsideFloor _ _ _).trans (State.openMic_outsideFloor _ _ _ _)

theorem State.talkByMode_outsideFloor (lead n : Nat) : SameOutsideFloor s (s.talkByMode lead n) := by
  unfold State.talkByMode
  split
  · split
    · exact State.refusePress_outsideFloor _ _ _
    · exact State.addNormal_outsideFloor _ _
  all_goals
    split
    · exact State.refusePress_outsideFloor _ _ _
    · split
      · first | exact State.refusePress_outsideFloor _ _ _ | exact State.openMic_outsideFloor _ _ _ _
      · first
        | exact State.displace_outsideFloor _ _ _
        | split
          · exact State.refusePress_outsideFloor _ _ _
          · exact State.openMic_outsideFloor _ _ _ _

theorem State.delegateTalk_outsideFloor (n : Nat) : SameOutsideFloor s (s.delegateTalk n) := by
  unfold State.delegateTalk
  dsimp only
  split
  · split
    · exact State.closeMic_outsideFloor _ _ _
    · exact .refl s
  · split
    · exact State.removeRequest_outsideFloor _ _ _
    · exact State.talkByMode_outsideFloor _ _ _

theorem State.chairTalk_outsideFloor (n : Nat) : SameOutsideFloor s (s.chairTalk n) := by
  unfold State.chairTalk
  split
  · exact State.closeMic_outsideFloor _ _ _
  · split
    · exact State.openMic_outsideFloor _ _ _ _
    · exact State.refusePress_outsideFloor _ _ _

theorem State.priorityMic_outsideFloor (n : Nat) : SameOutsideFloor s (s.priorityMic n) := by
  unfold State.priorityMic
  split
  · exact .refl s
  · split
    · exact State.openMic_outsideFloor _ _ _ _
    · exact State.refusePress_outsideFloor _ _ _

theorem State.chairPriorityDown_outsideFloor (n : Nat) : SameOutsideFloor s (s.chairPriorityDown n) := by
  unfold State.chairPriorityDown
  split
  · exact .refl s
  · dsimp only
    refine SameOutsideFloor.trans ?_ (State.priorityMic_outsideFloor _ _)
    split
    · exact ((State.setHolders_outsideFloor _ _).trans (State.notify_outsideFloor _ _)).trans
        (State.priorityAction_outsideFloor _ _)
    · exact State.setHolders_outsideFloor _ _

theorem State.chairPriorityUp_outsideFloor (n : Nat) : SameOutsideFloor s (s.chairPriorityUp n) := by
  have ends : ∀ u : State, SameOutsideFloor s u →
      SameOutsideFloor s (if (u.holdersIn (s.seatRoomCode n)).isEmpty then u.endPriority (s.seatRoomCode n) n else u) := by
    intro u h
    split
    · exact h.trans (State.endPriority_outsideFloor _ _ _)
    · exact h
  have left := State.setHolders_outsideFloor s (s.flc.holders.filter (· != n))
  unfold State.chairPriorityUp
  by_cases hc : s.flc.holders.contains n = true
  · simp only [hc, if_true]
    cases s.speaker n with
    | none => exact ends _ left
    | some e =>
      cases hp : e.byPriority
      · simpa [hp] using ends _ left
      · simpa [hp] using ends _ (left.trans (State.closeMic_outsideFloor _ _ _))
  · simp only [hc]; exact .refl s

theorem State.remapPriority_outsideFloor (lead : Nat) : SameOutsideFloor s (s.remapPriority lead) := by
  unfold State.remapPriority
  split
  · exact State.mapSpeakers_outsideFloor _ _
  · exact (State.notify_outsideFloor _ _).trans (State.priorityAction_outsideFloor _ _)

theorem State.remapMode_outsideFloor (lead : Nat) : SameOutsideFloor s (s.remapMode lead) := by
  unfold State.remapMode
  split
  · exact .refl s
  · exact State.clearQueue_outsideFloor _ _ _

/-- The floor remap touches the floor alone (R111, R112). -/
theorem State.floorRemap_outsideFloor (rooms : List Nat) : SameOutsideFloor s (s.floorRemap rooms) := by
  unfold State.floorRemap
  exact ((((SameOutsideFloor.foldl State.remapPriority_outsideFloor _ _).trans
    (.foldl (f := fun t lead => t.closeExcess lead .regroupLimit)
      (fun t lead => State.closeExcess_outsideFloor t lead _) _ _)).trans
    (.foldl State.remapMode_outsideFloor _ _)).trans (.of_flc _ _ _)).trans (State.advance_outsideFloor _)

theorem State.checkRoomForget_outsideFloor (lead : Nat) : SameOutsideFloor s (s.forgetLimits lead) :=
  State.mapSpeakers_outsideFloor _ _

theorem State.takeCheck_outsideFloor : SameOutsideFloor s s.takeCheck := by
  unfold State.takeCheck
  split
  · exact .refl s
  · exact (((SameOutsideFloor.of_flc _ _ _).trans (State.checkRoom_outsideFloor _ _ _)).trans
      (State.checkRoomForget_outsideFloor _ _)).trans (State.advance_outsideFloor _)

theorem State.takeChecks_outsideFloor : SameOutsideFloor s s.takeChecks :=
  .foldl (f := fun t _ => t.takeCheck) (fun t _ => State.takeCheck_outsideFloor t) _ _

theorem State.takeSecond_outsideFloor (n : Nat) : SameOutsideFloor s (s.takeSecond n) := by
  unfold State.takeSecond
  split
  · exact .refl s
  · split
    · exact ((State.mapSpeakers_outsideFloor _ _).trans (State.timerCheck_outsideFloor _ _ _)).trans
        (State.advance_outsideFloor _)
    · exact .refl s

theorem State.takeSeconds_outsideFloor : SameOutsideFloor s s.takeSeconds :=
  .foldl State.takeSecond_outsideFloor _ _

/-! ### Events taken by their rows -/

theorem State.afterEvent_next {i : Instr} {t : State} (h : exec i s = .next t) : s.afterEvent i = t := by
  simp [State.afterEvent, h]

/-- The row of a timer check that is due takes it (R122). -/
theorem State.afterEvent_remapTimerCheck (hr : s.running = true) (h : s.flc.checksDue ≠ []) :
    s.afterEvent .remapTimerCheck = s.takeCheck := by
  simp [State.afterEvent, exec, execRemapTimerCheck, State.whenRunning, State.remapTimerCheck, hr, h]

/-- The row of a speech second takes it (R116). -/
theorem State.afterEvent_speechSecond {n : Nat} (hr : s.running = true) (hn : n ≤ 255) :
    s.afterEvent (.speechSecond n) = s.takeSecond n := by
  have hs : isSeat n = true := by simp [isSeat]; omega
  simp [State.afterEvent, exec, execSpeechSecond, State.whenRunning, atSeat, hr, hs]

end

end Sys2Proof.Machine
end

