-- ==== Sys2Proof/Laws/Hall.lean ====
section
/-! SUPPORT. What the partition unit's procedures leave unchanged and what they write of the walls' records and of the marks of
log 4, each said once. -/

namespace Sys2Proof.Machine

/-! ### The frame as a relation -/

theorem SameOutsideHall.refl (s : State) : SameOutsideHall s s := ⟨rfl, rfl, rfl, rfl, rfl, rfl, rfl, rfl, rfl, rfl⟩

theorem SameOutsideHall.trans {s t u : State} (h : SameOutsideHall s t) (k : SameOutsideHall t u) :
    SameOutsideHall s u where
  slc := k.slc.trans h.slc
  flc := k.flc.trans h.flc
  lgr := k.lgr.trans h.lgr
  mxe := k.mxe.trans h.mxe
  sts := k.sts.trans h.sts
  stamp := k.stamp.trans h.stamp
  powered := k.powered.trans h.powered
  resetLow := k.resetLow.trans h.resetLow
  started := k.started.trans h.started
  pending := k.pending.trans h.pending

/-- What changes the hall and the port alone keeps the part running or held. -/
theorem SameOutsideHall.running {s t : State} (h : SameOutsideHall s t) : t.running = s.running := by
  simp only [State.running, h.powered, h.resetLow]

variable (s : State)

theorem SameOutsideHall.of_parts (p : Ptu) (c : Ctp) : SameOutsideHall s { s with ptu := p, ctp := c } :=
  ⟨rfl, rfl, rfl, rfl, rfl, rfl, rfl, rfl, rfl, rfl⟩

/-! ### The sequencer -/

/-- What receiving a target vector can do (R29 to R32, R38): it records the vector, from IDLE after capturing K, enters FADE_OUT
where the vector differs from the current joins, and sends at most one notice. -/
theorem State.receiveTargets_cases :
    ∃ (u : State) (q : SeqState) (c : Ctp), (u = s ∨ u = s.captureK) ∧
      s.receiveTargets = { u with ptu := { (u.retarget s.wallTargets).ptu with seq := q }, ctp := c } := by
  unfold State.receiveTargets
  dsimp only
  split
  · cases hq : s.ptu.seq <;> dsimp only
    · exact ⟨s, s.ptu.seq, s.ctp, .inl rfl, rfl⟩
    · split
      · exact ⟨s, s.ptu.seq, s.ctp, .inl rfl, rfl⟩
      · exact ⟨s, s.ptu.seq, _, .inl rfl, rfl⟩
    · exact ⟨s, s.ptu.seq, s.ctp, .inl rfl, rfl⟩
  · cases s.ptu.seq <;> dsimp only
    · exact ⟨s.captureK, .fadeOut, _, .inr rfl, rfl⟩
    · exact ⟨s, .fadeOut, _, .inl rfl, rfl⟩
    · exact ⟨s, .fadeOut, _, .inl rfl, rfl⟩

theorem State.receiveTargets_outsideHall : SameOutsideHall s s.receiveTargets := by
  obtain ⟨u, q, c, rfl | rfl, h⟩ := s.receiveTargets_cases <;> rw [h] <;> exact .of_parts _ _ _

/-- Receiving a target vector writes no wall's and no segment's record. -/
theorem State.receiveTargets_records :
    s.receiveTargets.ptu.walls = s.ptu.walls ∧ s.receiveTargets.ptu.segments = s.ptu.segments := by
  obtain ⟨u, q, c, rfl | rfl, h⟩ := s.receiveTargets_cases <;> rw [h] <;> exact ⟨rfl, rfl⟩

/-- An audio frame's movement leaves a remap marked exactly where its condition holds, and the end of the fades exactly where
nothing moves in a sequencer that is not IDLE and has no room affected (R33, R37). -/
theorem State.moveRooms_marks :
    (s.moveRooms.ptu.remapDue = true ↔ s.ptu.affected ≠ [] ∧ ∀ lead ∈ s.ptu.affected, (s.moveRooms.room lead).position = 0) ∧
    (s.moveRooms.ptu.fadeDone = true ↔
      s.ptu.seq ≠ .idle ∧ s.ptu.affected = [] ∧ ∀ r ∈ s.moveRooms.ptu.rooms, r.direction = .steady) := by
  constructor
  · simp [State.moveRooms, State.remapCondition, State.room, State.joins]
  · simp [State.moveRooms, State.fadeEnded, Room.regrouping, and_assoc]

/-! ### The walls -/

/-- A wall's check writes that wall's effective target and conflict flag, and of the hall's other records at most the
sequencer's (R9, R10). -/
theorem State.checkTarget_spec (k : Nat) :
    SameOutsideHall s (s.checkTarget k) ∧ (s.checkTarget k).ptu.segments = s.ptu.segments ∧
    (s.checkTarget k).ptu.walls = s.ptu.walls.modify (k - 1) fun x => { x with
      target := if (s.wall k).requested == .joined && s.privacyDiffers k then .split else (s.wall k).requested
      conflict := (s.wall k).requested == .joined && s.privacyDiffers k } := by
  unfold State.checkTarget
  dsimp only
  generalize ((s.wall k).requested == .joined && s.privacyDiffers k) = conflict
  generalize (if conflict = true then Join.split else (s.wall k).requested) = target
  have h : ∀ u : State, SameOutsideHall s u → u.ptu.segments = s.ptu.segments →
      u.ptu.walls = s.ptu.walls.modify (k - 1) (fun x => { x with target := target, conflict := conflict }) →
      ∀ v, v = (if target = (s.wall k).target then u else u.receiveTargets) →
        SameOutsideHall s v ∧ v.ptu.segments = s.ptu.segments ∧
          v.ptu.walls = s.ptu.walls.modify (k - 1) fun x => { x with target := target, conflict := conflict } := by
    rintro u hu hs hw v rfl
    split
    · exact ⟨hu, hs, hw⟩
    · exact ⟨hu.trans u.receiveTargets_outsideHall, by rw [u.receiveTargets_records.2, hs],
        by rw [u.receiveTargets_records.1, hw]⟩
  refine h _ ?_ ?_ ?_ _ rfl <;> split
  all_goals first | exact .of_parts s _ _ | rfl

/-- Working a wall out again writes its requested join, effective target and conflict flag alone (R8, R9). -/
theorem State.rework_spec (k : Nat) :
    SameOutsideHall s (s.rework k) ∧ (s.rework k).ptu.segments = s.ptu.segments ∧
    ∃ (j : Join) (c : Bool), (s.rework k).ptu.walls = s.ptu.walls.modify (k - 1) fun x =>
      { x with requested := x.requests, target := j, conflict := c } := by
  obtain ⟨h, hs, hw⟩ := (s.setWall k fun w => { w with requested := w.requests }).checkTarget_spec k
  refine ⟨SameOutsideHall.trans (.of_parts s _ _) h, hs, ?_, ?_, hw.trans ?_⟩
  rotate_left 2
  · rw [State.setWall_ptu, List.modify_modify_eq]
    rfl

/-- What a settle's expiry can do (R7): nothing where no timer counts or no expiry is marked; otherwise it ends the wall's
timer and takes the mark away, writing of the walls that one's record alone. -/
theorem State.settle_cases (k : Nat) :
    (s.settle k = s ∧ ((s.wall k).timer = none ∨ (s.wall k).expired = false)) ∨
    ((s.wall k).expired = true ∧ SameOutsideHall s (s.settle k) ∧ ∃ f : Wall → Wall,
      (∀ w, (f w).timer = none ∧ (f w).expired = false) ∧
      (s.settle k).ptu.walls = s.ptu.walls.modify (k - 1) f) := by
  unfold State.settle
  dsimp only
  split
  case h_2 h => exact .inl ⟨rfl, .inl h⟩
  case h_1 m _ =>
    split
    case isFalse h => exact .inl ⟨rfl, .inr (by simpa using h)⟩
    case isTrue h =>
      generalize (if m.candidate = .fault then faultKindOf (s.wall k).lastReading else none) = kind
      refine .inr ⟨h, ?_⟩
      cases kind <;> dsimp only
      all_goals
        obtain ⟨hs, -, j, c, hw⟩ := State.rework_spec _ k
        refine ⟨SameOutsideHall.trans (.of_parts s _ _) hs, ?_, ?_, hw.trans ?_⟩
        rotate_left 2
        · simp only [State.notify_ptu, State.setWall_ptu, List.modify_modify_eq]
          rfl
        · exact fun w => ⟨rfl, rfl⟩

/-- A settle that is not marked as expired, or whose timer is idle, changes nothing. -/
theorem State.settle_eq_self {k : Nat} (h : (s.wall k).timer = none ∨ (s.wall k).expired = false) : s.settle k = s := by
  rcases s.settle_cases k with h1 | ⟨he, -, -⟩
  · exact h1.1
  · rcases h with h | h
    · simp only [State.settle, h]
    · rw [h] at he; cases he

/-- SETTLE_EXPIRY of a wall of a running part is its settle's expiry. -/
theorem State.afterEvent_settleExpiry (hr : s.running = true) {k : Nat} (h1 : 1 ≤ k) (h5 : k ≤ 5) :
    s.afterEvent (.settleExpiry k) = s.settle k := by
  have hk : isWall k = true := by simp [isWall]; omega
  simp [State.afterEvent, exec, execSettleExpiry, hk, State.whenRunning, hr]

/-- The settles in wall order keep everything outside the hall and the port. -/
theorem State.settles_outsideHall (ks : List Nat) : SameOutsideHall s (ks.foldl State.settle s) := by
  induction ks generalizing s with
  | nil => exact .refl s
  | cons k ks ih =>
    refine SameOutsideHall.trans ?_ (ih (s.settle k))
    rcases s.settle_cases k with h | h
    · rw [h.1]; exact .refl s
    · exact h.2.1

end Sys2Proof.Machine
end

