-- ==== Sys2Proof/Laws/PerInstr.lean ====
section
/-! SUPPORT. What is said of every command as a command, one lemma a constructor: the kind under which a host command
travels names that command again (Table 9-4). -/

namespace Sys2Proof.Laws

/-- The kind, tag and payload of a host command's frame name that command, with the wall readings a RESTART carries; an
event travels in no frame. -/
def KindAgrees.Statement (i : Instr) : Prop :=
  i.wellFormed = true → ∀ f, frameOf i = some f → ∃ walls, commandOf walls f.kind f.tag f.payload = i

/-- A kind outside Table 9-4 names no command of the table. -/
theorem commandOf_unknown (walls : Readings) (kind tag : Byte) (payload : List Byte)
    (h : commandKinds.contains kind = false) : commandOf walls kind tag payload = .unknownKind kind tag payload := by
  have hk : ∀ b ∈ commandKinds, kind.toNat ≠ b.toNat := by
    intro b hb e
    rw [BitVec.eq_of_toNat_eq e] at h
    simp [hb] at h
  simp [commandKinds] at hk
  unfold commandOf
  split <;> first
    | rfl
    | omega

/-- A command of the table is named by its kind. -/
theorem kindAgrees_of_table {i : Instr} (walls : Readings) (f : Machine.Frame) (hf : frameOf i = some f)
    (hc : commandOf walls f.kind f.tag f.payload = i) : KindAgrees.Statement i := by
  intro _ g hg
  cases hf.symm.trans hg
  exact ⟨walls, hc⟩

/-- An event travels in no frame. -/
theorem kindAgrees_of_event {i : Instr} (hf : frameOf i = none) : KindAgrees.Statement i := by
  intro _ f h
  rw [hf] at h
  cases h

theorem KindAgrees.statusGet (tag : Byte) (payload : List Byte) : KindAgrees.Statement (.statusGet tag payload) :=
  kindAgrees_of_table ⟨0, 0, 0, 0, 0⟩ _ rfl rfl
theorem KindAgrees.restart (tag : Byte) (payload : List Byte) (walls : Readings) :
    KindAgrees.Statement (.restart tag payload walls) :=
  kindAgrees_of_table walls _ rfl rfl
theorem KindAgrees.noticeMask (tag : Byte) (payload : List Byte) : KindAgrees.Statement (.noticeMask tag payload) :=
  kindAgrees_of_table ⟨0, 0, 0, 0, 0⟩ _ rfl rfl
theorem KindAgrees.attnSet (tag : Byte) (payload : List Byte) : KindAgrees.Statement (.attnSet tag payload) :=
  kindAgrees_of_table ⟨0, 0, 0, 0, 0⟩ _ rfl rfl
theorem KindAgrees.supervisionSet (tag : Byte) (payload : List Byte) :
    KindAgrees.Statement (.supervisionSet tag payload) :=
  kindAgrees_of_table ⟨0, 0, 0, 0, 0⟩ _ rfl rfl
theorem KindAgrees.settingsSave (tag : Byte) (payload : List Byte) : KindAgrees.Statement (.settingsSave tag payload) :=
  kindAgrees_of_table ⟨0, 0, 0, 0, 0⟩ _ rfl rfl
theorem KindAgrees.profileSet (tag : Byte) (payload : List Byte) : KindAgrees.Statement (.profileSet tag payload) :=
  kindAgrees_of_table ⟨0, 0, 0, 0, 0⟩ _ rfl rfl
theorem KindAgrees.factoryDefaults (tag : Byte) (payload : List Byte) :
    KindAgrees.Statement (.factoryDefaults tag payload) :=
  kindAgrees_of_table ⟨0, 0, 0, 0, 0⟩ _ rfl rfl
theorem KindAgrees.wallPolicy (tag : Byte) (payload : List Byte) : KindAgrees.Statement (.wallPolicy tag payload) :=
  kindAgrees_of_table ⟨0, 0, 0, 0, 0⟩ _ rfl rfl
theorem KindAgrees.wallSet (tag : Byte) (payload : List Byte) : KindAgrees.Statement (.wallSet tag payload) :=
  kindAgrees_of_table ⟨0, 0, 0, 0, 0⟩ _ rfl rfl
theorem KindAgrees.segmentPrivacy (tag : Byte) (payload : List Byte) :
    KindAgrees.Statement (.segmentPrivacy tag payload) :=
  kindAgrees_of_table ⟨0, 0, 0, 0, 0⟩ _ rfl rfl
theorem KindAgrees.fadeTime (tag : Byte) (payload : List Byte) : KindAgrees.Statement (.fadeTime tag payload) :=
  kindAgrees_of_table ⟨0, 0, 0, 0, 0⟩ _ rfl rfl
theorem KindAgrees.roomTemplate (tag : Byte) (payload : List Byte) : KindAgrees.Statement (.roomTemplate tag payload) :=
  kindAgrees_of_table ⟨0, 0, 0, 0, 0⟩ _ rfl rfl
theorem KindAgrees.hallGet (tag : Byte) (payload : List Byte) : KindAgrees.Statement (.hallGet tag payload) :=
  kindAgrees_of_table ⟨0, 0, 0, 0, 0⟩ _ rfl rfl
theorem KindAgrees.linePower (tag : Byte) (payload : List Byte) : KindAgrees.Statement (.linePower tag payload) :=
  kindAgrees_of_table ⟨0, 0, 0, 0, 0⟩ _ rfl rfl
theorem KindAgrees.lineWake (tag : Byte) (payload : List Byte) : KindAgrees.Statement (.lineWake tag payload) :=
  kindAgrees_of_table ⟨0, 0, 0, 0, 0⟩ _ rfl rfl
theorem KindAgrees.lineStandby (tag : Byte) (payload : List Byte) : KindAgrees.Statement (.lineStandby tag payload) :=
  kindAgrees_of_table ⟨0, 0, 0, 0, 0⟩ _ rfl rfl
theorem KindAgrees.lineOff (tag : Byte) (payload : List Byte) : KindAgrees.Statement (.lineOff tag payload) :=
  kindAgrees_of_table ⟨0, 0, 0, 0, 0⟩ _ rfl rfl
theorem KindAgrees.lineCensus (tag : Byte) (payload : List Byte) : KindAgrees.Statement (.lineCensus tag payload) :=
  kindAgrees_of_table ⟨0, 0, 0, 0, 0⟩ _ rfl rfl
theorem KindAgrees.lineGet (tag : Byte) (payload : List Byte) : KindAgrees.Statement (.lineGet tag payload) :=
  kindAgrees_of_table ⟨0, 0, 0, 0, 0⟩ _ rfl rfl
theorem KindAgrees.seatPlace (tag : Byte) (payload : List Byte) : KindAgrees.Statement (.seatPlace tag payload) :=
  kindAgrees_of_table ⟨0, 0, 0, 0, 0⟩ _ rfl rfl
theorem KindAgrees.seatTrim (tag : Byte) (payload : List Byte) : KindAgrees.Statement (.seatTrim tag payload) :=
  kindAgrees_of_table ⟨0, 0, 0, 0, 0⟩ _ rfl rfl
theorem KindAgrees.seatGet (tag : Byte) (payload : List Byte) : KindAgrees.Statement (.seatGet tag payload) :=
  kindAgrees_of_table ⟨0, 0, 0, 0, 0⟩ _ rfl rfl
theorem KindAgrees.seatText (tag : Byte) (payload : List Byte) : KindAgrees.Statement (.seatText tag payload) :=
  kindAgrees_of_table ⟨0, 0, 0, 0, 0⟩ _ rfl rfl
theorem KindAgrees.lineIndicators (tag : Byte) (payload : List Byte) :
    KindAgrees.Statement (.lineIndicators tag payload) :=
  kindAgrees_of_table ⟨0, 0, 0, 0, 0⟩ _ rfl rfl
theorem KindAgrees.micOpen (tag : Byte) (payload : List Byte) : KindAgrees.Statement (.micOpen tag payload) :=
  kindAgrees_of_table ⟨0, 0, 0, 0, 0⟩ _ rfl rfl
theorem KindAgrees.micClose (tag : Byte) (payload : List Byte) : KindAgrees.Statement (.micClose tag payload) :=
  kindAgrees_of_table ⟨0, 0, 0, 0, 0⟩ _ rfl rfl
theorem KindAgrees.roomCloseAll (tag : Byte) (payload : List Byte) : KindAgrees.Statement (.roomCloseAll tag payload) :=
  kindAgrees_of_table ⟨0, 0, 0, 0, 0⟩ _ rfl rfl
theorem KindAgrees.requestAdd (tag : Byte) (payload : List Byte) : KindAgrees.Statement (.requestAdd tag payload) :=
  kindAgrees_of_table ⟨0, 0, 0, 0, 0⟩ _ rfl rfl
theorem KindAgrees.requestRemove (tag : Byte) (payload : List Byte) :
    KindAgrees.Statement (.requestRemove tag payload) :=
  kindAgrees_of_table ⟨0, 0, 0, 0, 0⟩ _ rfl rfl
theorem KindAgrees.grantNext (tag : Byte) (payload : List Byte) : KindAgrees.Statement (.grantNext tag payload) :=
  kindAgrees_of_table ⟨0, 0, 0, 0, 0⟩ _ rfl rfl
theorem KindAgrees.queueClear (tag : Byte) (payload : List Byte) : KindAgrees.Statement (.queueClear tag payload) :=
  kindAgrees_of_table ⟨0, 0, 0, 0, 0⟩ _ rfl rfl
theorem KindAgrees.roomGet (tag : Byte) (payload : List Byte) : KindAgrees.Statement (.roomGet tag payload) :=
  kindAgrees_of_table ⟨0, 0, 0, 0, 0⟩ _ rfl rfl
theorem KindAgrees.speechExtend (tag : Byte) (payload : List Byte) : KindAgrees.Statement (.speechExtend tag payload) :=
  kindAgrees_of_table ⟨0, 0, 0, 0, 0⟩ _ rfl rfl
theorem KindAgrees.talkTotalClear (tag : Byte) (payload : List Byte) :
    KindAgrees.Statement (.talkTotalClear tag payload) :=
  kindAgrees_of_table ⟨0, 0, 0, 0, 0⟩ _ rfl rfl
theorem KindAgrees.channelSetup (tag : Byte) (payload : List Byte) : KindAgrees.Statement (.channelSetup tag payload) :=
  kindAgrees_of_table ⟨0, 0, 0, 0, 0⟩ _ rfl rfl
theorem KindAgrees.boothSetup (tag : Byte) (payload : List Byte) : KindAgrees.Statement (.boothSetup tag payload) :=
  kindAgrees_of_table ⟨0, 0, 0, 0, 0⟩ _ rfl rfl
theorem KindAgrees.deskAssign (tag : Byte) (payload : List Byte) : KindAgrees.Statement (.deskAssign tag payload) :=
  kindAgrees_of_table ⟨0, 0, 0, 0, 0⟩ _ rfl rfl
theorem KindAgrees.languageGet (tag : Byte) (payload : List Byte) : KindAgrees.Statement (.languageGet tag payload) :=
  kindAgrees_of_table ⟨0, 0, 0, 0, 0⟩ _ rfl rfl
theorem KindAgrees.monitorRoute (tag : Byte) (payload : List Byte) : KindAgrees.Statement (.monitorRoute tag payload) :=
  kindAgrees_of_table ⟨0, 0, 0, 0, 0⟩ _ rfl rfl
theorem KindAgrees.clipGet (tag : Byte) (payload : List Byte) : KindAgrees.Statement (.clipGet tag payload) :=
  kindAgrees_of_table ⟨0, 0, 0, 0, 0⟩ _ rfl rfl
theorem KindAgrees.unknownKind (kind tag : Byte) (payload : List Byte) :
    KindAgrees.Statement (.unknownKind kind tag payload) := by
  intro hw f hf
  cases hf
  refine ⟨⟨0, 0, 0, 0, 0⟩, commandOf_unknown _ _ _ _ ?_⟩
  simpa using (Bool.and_eq_true_iff.mp hw).2

theorem KindAgrees.frameCheckFailed (kind tag : Byte) (payload : List Byte) (check : BitVec 16) :
    KindAgrees.Statement (.frameCheckFailed kind tag payload check) :=
  kindAgrees_of_event rfl
theorem KindAgrees.frameLengthExcess (length : BitVec 16) : KindAgrees.Statement (.frameLengthExcess length) :=
  kindAgrees_of_event rfl
theorem KindAgrees.transferStart : KindAgrees.Statement (.transferStart) :=
  kindAgrees_of_event rfl
theorem KindAgrees.outboundFrameSent : KindAgrees.Statement (.outboundFrameSent) :=
  kindAgrees_of_event rfl
theorem KindAgrees.chipSelectRelease (received : List Byte) : KindAgrees.Statement (.chipSelectRelease received) :=
  kindAgrees_of_event rfl
theorem KindAgrees.attnPulse : KindAgrees.Statement (.attnPulse) :=
  kindAgrees_of_event rfl
theorem KindAgrees.hostAbsenceExpiry : KindAgrees.Statement (.hostAbsenceExpiry) :=
  kindAgrees_of_event rfl
theorem KindAgrees.powerUp (walls : Readings) : KindAgrees.Statement (.powerUp walls) :=
  kindAgrees_of_event rfl
theorem KindAgrees.powerLoss : KindAgrees.Statement (.powerLoss) :=
  kindAgrees_of_event rfl
theorem KindAgrees.resetAssert : KindAgrees.Statement (.resetAssert) :=
  kindAgrees_of_event rfl
theorem KindAgrees.resetRelease (walls : Readings) : KindAgrees.Statement (.resetRelease walls) :=
  kindAgrees_of_event rfl
theorem KindAgrees.wallMeasurement (walls : Readings) : KindAgrees.Statement (.wallMeasurement walls) :=
  kindAgrees_of_event rfl
theorem KindAgrees.settleExpiry (wall : Nat) : KindAgrees.Statement (.settleExpiry wall) :=
  kindAgrees_of_event rfl
theorem KindAgrees.audioFrame (samples : List Sample) : KindAgrees.Statement (.audioFrame samples) :=
  kindAgrees_of_event rfl
theorem KindAgrees.remap : KindAgrees.Statement (.remap) :=
  kindAgrees_of_event rfl
theorem KindAgrees.fadeComplete : KindAgrees.Statement (.fadeComplete) :=
  kindAgrees_of_event rfl
theorem KindAgrees.remapTimerCheck : KindAgrees.Statement (.remapTimerCheck) :=
  kindAgrees_of_event rfl
theorem KindAgrees.speechSecond (seat : Nat) : KindAgrees.Statement (.speechSecond seat) :=
  kindAgrees_of_event rfl
theorem KindAgrees.indicatorRefresh (part : RefreshStep) : KindAgrees.Statement (.indicatorRefresh part) :=
  kindAgrees_of_event rfl
theorem KindAgrees.silentUnit (line : Nat) : KindAgrees.Statement (.silentUnit line) :=
  kindAgrees_of_event rfl
theorem KindAgrees.overcurrent (line : Nat) : KindAgrees.Statement (.overcurrent line) :=
  kindAgrees_of_event rfl
theorem KindAgrees.standbyCurrentMeasurement (line : Nat) (estimate : Nat) :
    KindAgrees.Statement (.standbyCurrentMeasurement line estimate) :=
  kindAgrees_of_event rfl
theorem KindAgrees.wakeEnd (line : Nat) : KindAgrees.Statement (.wakeEnd line) :=
  kindAgrees_of_event rfl
theorem KindAgrees.censusSlot (line : Nat) (answer : Option UnitAnswer) :
    KindAgrees.Statement (.censusSlot line answer) :=
  kindAgrees_of_event rfl
theorem KindAgrees.censusComplete (line : Nat) : KindAgrees.Statement (.censusComplete line) :=
  kindAgrees_of_event rfl
theorem KindAgrees.flashEnd (seat : Nat) : KindAgrees.Statement (.flashEnd seat) :=
  kindAgrees_of_event rfl
theorem KindAgrees.saveWriteComplete (good : Bool) : KindAgrees.Statement (.saveWriteComplete good) :=
  kindAgrees_of_event rfl
theorem KindAgrees.talk (seat : Nat) : KindAgrees.Statement (.talk seat) :=
  kindAgrees_of_event rfl
theorem KindAgrees.priorityDown (seat : Nat) : KindAgrees.Statement (.priorityDown seat) :=
  kindAgrees_of_event rfl
theorem KindAgrees.priorityUp (seat : Nat) : KindAgrees.Statement (.priorityUp seat) :=
  kindAgrees_of_event rfl
theorem KindAgrees.outputSelect (seat : Nat) (output : OutputSelect) :
    KindAgrees.Statement (.outputSelect seat output) :=
  kindAgrees_of_event rfl
theorem KindAgrees.inputSelect (seat : Nat) (value : Nat) : KindAgrees.Statement (.inputSelect seat value) :=
  kindAgrees_of_event rfl
theorem KindAgrees.listenSelect (seat : Nat) (value : Nat) : KindAgrees.Statement (.listenSelect seat value) :=
  kindAgrees_of_event rfl

end Sys2Proof.Laws
end

