-- ==== Sys2Proof/Laws/Store.lean ====
section
/-! SUPPORT. The settings image: what a completed write and a broken one leave, and what a start reads of either. -/

namespace Sys2Proof.Machine

/-- The image a completed write leaves is valid (R208, R210). -/
@[simp] theorem Settings.sealed_valid (x : Settings) : x.sealed.valid = true := by simp [Settings.sealed, Image.valid]

@[simp] theorem Settings.sealed_contents (x : Settings) : x.sealed.contents = x := rfl

/-- The image a broken write leaves is invalid (R208, log 19). -/
@[simp] theorem Image.spoiled_valid (i : Image) : i.spoiled.valid = false := by
  have h : ∀ y : BitVec 32, (~~~y == y) = false := by
    intro y
    cases hb : (~~~y == y)
    · rfl
    · have := congrArg (fun z => z.getLsbD 0) (eq_of_beq hb)
      simp at this
  simp only [Image.spoiled, Image.valid, h]

@[simp] theorem Image.spoiled_contents (i : Image) : i.spoiled.contents = i.contents := rfl

/-- A start after a completed write loads what was written; otherwise it loads the factory defaults (R214). -/
theorem State.loaded_eq (s : State) :
    (s.sts.image.valid = true ∧ s.loaded = s.sts.image.contents) ∨
      (s.sts.image.valid = false ∧ s.loaded = factorySettings) := by
  unfold State.loaded
  cases s.sts.image.valid <;> simp

end Sys2Proof.Machine
end

