-- ==== Sys2Proof/Tests/Slice0.lean ====
section
/-! SUPPORT. Small tests: the reset state, the ill-formed terms, frames written out from Table 9-1, one event or command at a
time against the worked cases and the rules of spec/, and a witness of the hypotheses of every statement. -/

namespace Sys2Proof.Tests

-- One theorem after another: each evaluation in the kernel takes a thread of its own otherwise.
set_option Elab.async false

open Sys2Proof Sys2Proof.Machine

/-! ### Helpers -/

/-- The state a command leaves. -/
def after (c : Instr) (s : State) : State := s.afterEvent c

/-- A transfer in which no inbound frame has been taken yet, and none is sent. -/
def listening (s : State) : State := { s with ctp := { s.ctp with transfer := some ⟨.none, false⟩ } }

/-- The state a frame leaves that comes in a transfer of its own. -/
def sent (c : Instr) (s : State) : State := after c (listening s)

/-- Whether a command stops with the fault given. -/
def stops (c : Instr) (s : State) (f : Fault) : Bool :=
  match exec c s with
  | .fault g => g == f
  | _ => false

/-- The last reply queued. -/
def lastReply (s : State) : Option Frame := s.ctp.replies.getLast?

/-- The result code with which a command is answered. -/
def code (c : Instr) (s : State) : Option Byte := (lastReply (sent c s)).bind (·.payload.head?)

/-- A seat of the kind, placement and booth given. -/
def seatOf (kind : Kind) (placement booth : Option Nat) : Seat :=
  { startSeat { factorySeat with placement := placement, booth := booth } with unit := some ⟨7#32, kind⟩ }

/-- The six-room hall with every line ACTIVE, as a valid frame leaves the control port: delegates 0 and 1, chair 2 and desk 3 (of booth 1) in S1, an unplaced delegate
4, an UNKNOWN unit 5, delegate 6 in S2, desk 7 of no booth; channels 1 (AAA) and 2 (BBB) of S1, 3 (AAA) of S2. -/
def hall : State :=
  { State.reset with
    ctp := { resetCtp with notices := [], transfer := some ⟨.none, true⟩ }
    slc :=
      { lines := List.replicate 4 { startLine factoryLine with phase := .active, unitCount := 8 }
        seats := [seatOf .delegate (some 1) none, seatOf .delegate (some 1) none, seatOf .chair (some 1) none,
          seatOf .desk (some 1) (some 1), seatOf .delegate none none, seatOf .unknown (some 1) none,
          seatOf .delegate (some 2) none, seatOf .desk (some 1) none] ++ List.replicate 248 (startSeat factorySeat) }
    lgr :=
      { resetLgr with
        channels := [⟨true, ⟨65, 65, 65⟩, 1⟩, ⟨true, ⟨66, 66, 66⟩, 1⟩, ⟨true, ⟨65, 65, 65⟩, 2⟩] ++
          List.replicate 21 factoryChannel
        booths := [⟨true, 1, 1, 2, .takeover⟩, ⟨true, 2, 3, 0, .refuse⟩] ++ List.replicate 14 factoryBooth } }

/-- The hall with the template of S1 changed. -/
def hallWith (f : Template → Template) : State := hall.setSegment 1 fun x => { x with template := f x.template }

/-- Delegate 0 open in S1 for 12 s under a speech limit of 10 s, delegate 1 queued. -/
def talking : State :=
  { hallWith (fun x => { x with speechLimit := 10, warningLead := 5 }) with
    stamp := 9#40
    flc := { emptyFlc with
      speakers := [{ newSpeaker 0 .delegate 4#40 .host with seconds := 12 }]
      queue := [⟨1, .normal, 8#40⟩] } }

/-- Chair 2 holds priority in S1 with its microphone open. -/
def priority : State :=
  { hall with flc := { emptyFlc with speakers := [newSpeaker 2 .chair 4#40 .priority], holders := [2] } }

/-- A full pool: 32 open microphones on seats 100 to 131, none of them of S1. -/
def full : State :=
  { hall with flc := { emptyFlc with
      speakers := (List.range 32).map fun i => newSpeaker (100 + i) .delegate (BitVec.ofNat 40 i) .host } }

/-- Line 0 ACTIVE, line 1 waking from STANDBY, line 2 in STANDBY, line 3 OFF. -/
def lines : State :=
  (((hall.setLine 1 fun x => { x with phase := .waking .resume 1 }).setLine 2 fun x => { x with phase := .standby }).setLine
    3 fun x => { x with phase := .off })

/-- The census of `counting`: two units found, nothing beyond the second. -/
def twoFound : Census :=
  { found := [⟨7#32, .delegate⟩, ⟨9#32, .chair⟩]
    sense := some false
    before := (seatsOfLine 0).map fun n => (hall.seat n).unit }

/-- Line 0 at the end of a census; line 1 in FAULT; line 2 waking at start. -/
def counting : State :=
  ((hall.setLine 0 fun x => { x with phase := .census twoFound }).setLine 1 fun x =>
    { x with phase := .fault .overcurrent none }).setLine 2 fun x => { x with phase := .waking .start 1 }

/-- W1 under HELD with JOINED requested and not yet in force: the sequencer fades S1 and S2 out. -/
def fading : State :=
  (hall.setWall 1 fun w =>
    { w with
      set := { w.set with policy := .held, held := .joined }
      requested := .joined
      target := .joined }).receiveTargets

/-- The same at the audio frame that finds both rooms at 0. -/
def fallen : State :=
  { fading with ptu := { fading.ptu with remapDue := true, rooms := fading.ptu.rooms.map fun r =>
    if r.direction = .down then { r with position := 0 } else r } }

/-- The same with a timer check of S1 and a second of delegate 0 still due. -/
def due : State :=
  { fallen with flc := { emptyFlc with
      speakers := [{ newSpeaker 0 .delegate 4#40 .host with seconds := 12, secondDue := true }]
      checksDue := [1] } }

/-- S1 and S2 joined and at rest. -/
def joined : State :=
  let t := fallen.remapAll
  { t with
    ptu := { t.ptu with seq := .idle, rooms := t.ptu.rooms.map fun r => { r with position := 9600, direction := .steady } }
    ctp := { t.ctp with notices := [] } }

/-- Desk 3 on air on channel 1. -/
def onAir : State := hall.setDesk 3 fun d => { d with live := true }

/-- A part without power. -/
def dark : State := { State.reset with powered := false, started := false }

/-! ### Reset -/

/-- R214 to R216, row COLD INVALID (log 1). -/
theorem test_reset_is_cold_start : after (.powerUp ⟨0, 0, 0, 0, 0⟩) dark = State.reset := by decide +kernel

/-- The queue gives its front (log 2). -/
theorem test_step_takes_front :
    (match step { hall with pending := [.talk 0, .talk 1] } with
      | .next t => t.pending == [.talk 1] && (t.request 0).isSome
      | _ => false) = true := by decide +kernel

/-! ### Well-formed and ill-formed commands -/

/-- A payload above 512 bytes (R182). -/
theorem test_wf_payload : (Instr.statusGet 1#8 (List.replicate 513 0#8)).wellFormed = false ∧
    (Instr.restart 1#8 (List.replicate 513 0#8) ⟨0, 0, 0, 0, 0⟩).wellFormed = false ∧
    (Instr.statusGet 1#8 (List.replicate 512 0#8)).wellFormed = true := by decide +kernel
/-- A kind of Table 9-4 is no unknown kind. -/
theorem test_wf_unknown_kind :
    (Instr.unknownKind 0x30#8 1#8 []).wellFormed = false ∧ (Instr.unknownKind 0x31#8 1#8 []).wellFormed = false ∧
    (Instr.unknownKind 0x60#8 1#8 []).wellFormed = true := by decide +kernel
/-- The check value that matches is no failed check (R185). -/
theorem test_wf_check : (Instr.frameCheckFailed 0x01#8 0x05#8 [] 0xE754#16).wellFormed = false ∧
    (Instr.frameCheckFailed 0x01#8 0x05#8 [] 0xE755#16).wellFormed = true := by decide +kernel
/-- A length of 512 is no excess (R184). -/
theorem test_wf_length : (Instr.frameLengthExcess 512#16).wellFormed = false ∧
    (Instr.frameLengthExcess 513#16).wellFormed = true := by decide
/-- A partial frame begins with the sync byte and is not complete (R186). -/
theorem test_wf_release : (Instr.chipSelectRelease [0x00#8]).wellFormed = false ∧
    (Instr.chipSelectRelease [0xC6#8, 0#8, 0#8, 1#8, 5#8, 0xE7#8, 0x54#8]).wellFormed = false ∧
    (Instr.chipSelectRelease [0xC6#8, 0#8, 0#8, 1#8, 5#8, 0xE7#8]).wellFormed = true ∧
    (Instr.chipSelectRelease []).wellFormed = true := by decide +kernel
/-- Walls, lines, seats and samples that the part does not have (R4, R41, R58, R160). -/
theorem test_wf_missing_units : (Instr.settleExpiry 0).wellFormed = false ∧ (Instr.settleExpiry 6).wellFormed = false ∧
    (Instr.audioFrame []).wellFormed = false ∧ (Instr.indicatorRefresh ⟨[], [256]⟩).wellFormed = false ∧
    (Instr.indicatorRefresh ⟨[65], []⟩).wellFormed = false ∧ (Instr.indicatorRefresh ⟨[0, 0, 0, 0, 0], []⟩).wellFormed = false ∧
    (Instr.silentUnit 4).wellFormed = false ∧ (Instr.overcurrent 4).wellFormed = false ∧
    (Instr.standbyCurrentMeasurement 4 0).wellFormed = false ∧ (Instr.wakeEnd 4).wellFormed = false ∧
    (Instr.censusSlot 4 none).wellFormed = false ∧ (Instr.censusComplete 4).wellFormed = false ∧
    (Instr.speechSecond 256).wellFormed = false ∧ (Instr.flashEnd 256).wellFormed = false ∧
    (Instr.talk 256).wellFormed = false ∧ (Instr.priorityDown 256).wellFormed = false ∧
    (Instr.priorityUp 256).wellFormed = false ∧ (Instr.outputSelect 256 .a).wellFormed = false ∧
    (Instr.inputSelect 256 0).wellFormed = false ∧ (Instr.listenSelect 256 0).wellFormed = false ∧
    (Instr.talk 255).wellFormed = true ∧ (Instr.settleExpiry 5).wellFormed = true := by decide +kernel
/-- A command with a payload of the wrong length is well formed: the manual gives it BAD_LENGTH. -/
theorem test_wf_wrong_length : (Instr.micOpen 1#8 [0#8]).wellFormed = true := by decide

/-! ### Frames (Table 9-1; the check values computed by hand from R183) -/

/-- The nine bytes 31h to 39h (R183, R208). -/
theorem test_check_values :
    crc16 [0x31, 0x32, 0x33, 0x34, 0x35, 0x36, 0x37, 0x38, 0x39] = 0x29B1#16 ∧
    crc32 [0x31, 0x32, 0x33, 0x34, 0x35, 0x36, 0x37, 0x38, 0x39] = 0xCBF43926#32 := by decide +kernel
/-- A STATUS_GET after two bytes of fill, with bytes after it that are ignored. -/
theorem test_read_status_get : readInbound ⟨0, 0, 0, 0, 0⟩
    [0x00#8, 0x55#8, 0xC6#8, 0x00#8, 0x00#8, 0x01#8, 0x05#8, 0xE7#8, 0x54#8, 0xC6#8] = .statusGet 0x05#8 [] := by
  decide +kernel
/-- SEGMENT_PRIVACY of S3 to PRIVATE. -/
theorem test_read_segment_privacy : readInbound ⟨0, 0, 0, 0, 0⟩
    [0xC6#8, 0x00#8, 0x02#8, 0x12#8, 0x06#8, 0x03#8, 0x01#8, 0x4B#8, 0x8E#8] = .segmentPrivacy 0x06#8 [3#8, 1#8] := by
  decide +kernel
/-- LINE_WAKE of line 2. -/
theorem test_read_line_wake : readInbound ⟨0, 0, 0, 0, 0⟩
    [0xC6#8, 0x00#8, 0x01#8, 0x21#8, 0x15#8, 0x02#8, 0x0A#8, 0x8A#8] = .lineWake 0x15#8 [2#8] := by decide +kernel
/-- SEAT_PLACE of seat 7 in S2. -/
theorem test_read_seat_place : readInbound ⟨0, 0, 0, 0, 0⟩
    [0xC6#8, 0x00#8, 0x03#8, 0x26#8, 0x11#8, 0x00#8, 0x07#8, 0x02#8, 0x2E#8, 0xD9#8] =
      .seatPlace 0x11#8 [0#8, 7#8, 2#8] := by decide +kernel
/-- MIC_OPEN of seat 7. -/
theorem test_read_mic_open : readInbound ⟨0, 0, 0, 0, 0⟩
    [0xC6#8, 0x00#8, 0x02#8, 0x30#8, 0x12#8, 0x00#8, 0x07#8, 0x3B#8, 0x9E#8] = .micOpen 0x12#8 [0#8, 7#8] := by
  decide +kernel
/-- BOOTH_SETUP of booth 1. -/
theorem test_read_booth_setup : readInbound ⟨0, 0, 0, 0, 0⟩
    [0xC6#8, 0x00#8, 0x06#8, 0x41#8, 0x13#8, 1#8, 1#8, 1#8, 1#8, 2#8, 1#8, 0x3D#8, 0x7D#8] =
      .boothSetup 0x13#8 [1#8, 1#8, 1#8, 1#8, 2#8, 1#8] := by decide +kernel
/-- A kind outside Table 9-4. -/
theorem test_read_unknown : readInbound ⟨0, 0, 0, 0, 0⟩
    [0xC6#8, 0x00#8, 0x01#8, 0x60#8, 0x14#8, 0xAA#8, 0x27#8, 0xC4#8] = .unknownKind 0x60#8 0x14#8 [0xAA#8] := by
  decide +kernel
/-- A wrong check value, a length of 513, and a frame cut short (R184 to R186). -/
theorem test_read_bad_frames :
    readInbound ⟨0, 0, 0, 0, 0⟩ [0xC6#8, 0x00#8, 0x00#8, 0x01#8, 0x05#8, 0xE7#8, 0x55#8] =
      .frameCheckFailed 0x01#8 0x05#8 [] 0xE755#16 ∧
    readInbound ⟨0, 0, 0, 0, 0⟩ [0xC6#8, 0x02#8, 0x01#8] = .frameLengthExcess 513#16 ∧
    readInbound ⟨0, 0, 0, 0, 0⟩ [0x00#8, 0xC6#8, 0x00#8, 0x00#8, 0x01#8] =
      .chipSelectRelease [0xC6#8, 0x00#8, 0x00#8, 0x01#8] := by decide +kernel
/-- No table word spells a command (log 3). -/
theorem test_no_table_word : decodeTableWord 16 0x0105 = none ∧ hall.withFetchWord 16 0x0105 = hall := by decide +kernel

/-! ### Control port and store -/

/-- R188, R203: reply kind 81h, OK, part 1 of 1, cause COLD. -/
theorem test_status_get : (lastReply (sent (.statusGet 9#8 []) hall)).map (fun f => (f.kind, f.tag, f.payload.take 4)) =
    some (0x81#8, 9#8, [0#8, 1#8, 1#8, 0#8]) := by decide +kernel
/-- R213: a RESTART is a warm reset with cause COMMAND. -/
theorem test_restart : (sent (.restart 1#8 [] ⟨0, 0, 0, 0, 0⟩) hall).sts.cause = .command := by decide +kernel
/-- R204: a second frame in the transfer of the RESTART finds no assembly; in the next transfer it is answered. -/
theorem test_restart_ends_assembly :
    let t := sent (.restart 1#8 [] ⟨0, 0, 0, 0, 0⟩) hall
    (after (.micOpen 2#8 [0#8, 0#8]) t).ctp.replies = [] ∧
    (after (.micOpen 2#8 [0#8, 0#8]) (after .transferStart t)).ctp.replies.length = 1 := by decide +kernel
/-- R184: of two frames in one transfer the second is ignored. -/
theorem test_second_frame_ignored :
    (after (.micClose 2#8 [0#8, 0#8]) (sent (.micOpen 1#8 [0#8, 0#8]) hall)).ctp.replies.length = 1 := by decide +kernel
/-- R194: bit 0 stays set. -/
theorem test_notice_mask : (sent (.noticeMask 1#8 [0x02#8]) hall).ctp.mask = 0x03#8 := by decide +kernel
/-- R198: mode LEVEL to PULSE, width 9 taken as 7. -/
theorem test_attn_set : (sent (.attnSet 1#8 [1#8, 1#8, 9#8]) hall).ctp.attn = ⟨true, .pulse, 7⟩ := by decide +kernel
/-- R202: a period of 1 is taken as 2. -/
theorem test_supervision_set : (sent (.supervisionSet 1#8 [1#8]) hall).ctp.period = 2 := by decide +kernel
/-- R209: the save makes the image invalid until it ends; R210: then the image is valid. -/
theorem test_settings_save :
    (sent (.settingsSave 1#8 []) hall).sts.saving = some hall.snapshot ∧
    (after (.saveWriteComplete true) (sent (.settingsSave 1#8 []) hall)).sts.image.contents = hall.snapshot := by
  decide +kernel
/-- R208, Table 10-2: the CRC-32 of the factory image, computed outside the model over its bytes (layout: log 19). -/
theorem test_image_check : factorySettings.check = 0xC807AC08#32 := by decide +kernel
/-- R207, 10.6: the pending profile changes, the active one stays; the reply is PENDING. -/
theorem test_profile_set : (sent (.profileSet 1#8 [2#8]) hall).sts.pending = .language ∧
    (sent (.profileSet 1#8 [2#8]) hall).sts.active = .balanced ∧
    (lastReply (sent (.profileSet 1#8 [2#8]) hall)).map (·.payload) = some [1#8, 2#8] := by decide +kernel
/-- R212: seats unplaced, channels OFF. -/
theorem test_factory_defaults : (sent (.factoryDefaults 1#8 []) hall).snapshot = factorySettings := by decide +kernel
/-- R187: UNKNOWN_KIND under the kind plus 80h. -/
theorem test_unknown_kind : lastReply (sent (.unknownKind 0x60#8 0x14#8 [0xAA#8]) hall) =
    some { kind := 0xE0#8, tag := 0x14#8, payload := [4#8] } := by decide +kernel
/-- R185: FRAME_ERROR with the bytes received, the length, kind and tag, and no reply. -/
theorem test_frame_check_failed :
    (sent (.frameCheckFailed 0x01#8 0x05#8 [] 0xE755#16) hall).ctp.notices = [.frameError .crc 7 0 0x01#8 0x05#8] ∧
    (sent (.frameCheckFailed 0x01#8 0x05#8 [] 0xE755#16) hall).ctp.replies = [] := by decide +kernel
/-- R184: a length of 513. -/
theorem test_frame_length_excess :
    (sent (.frameLengthExcess 513#16) hall).ctp.notices = [.frameError .length 3 513 0#8 0#8] := by decide +kernel
/-- R180: replies go before notices, and 00h follows the frame; R181: a frame leaves its queue when sent whole. -/
theorem test_transfer :
    let t := after .transferStart (after (.chipSelectRelease []) (sent (.micOpen 1#8 [0#8, 0#8]) hall))
    t.ctp.transfer = some ⟨.reply, false⟩ ∧ t.dataOut 0 = 0xC6#8 ∧ t.dataOut 3 = 0xB0#8 ∧ t.dataOut 8 = 0x00#8 ∧
    (after .outboundFrameSent t).ctp.replies = [] ∧ (after .outboundFrameSent t).dataOut 0 = 0x00#8 := by decide +kernel
/-- R186: a partial frame of four bytes. -/
theorem test_chip_select_release :
    (after (.chipSelectRelease [0xC6#8, 0#8, 2#8, 0x30#8]) (listening hall)).ctp.notices =
      [.frameError .truncated 4 2 0x30#8 0#8] := by decide +kernel
/-- R197: a pulse begins while the count is above 0. -/
theorem test_attn_pulse : (after .attnPulse { hall with ctp := { hall.ctp with
    attn := ⟨true, .pulse, 0⟩
    pulses := 2 } }).ctp.pulses = 1 := by decide +kernel
/-- R200: autonomous, HOST_ABSENT with the period, and auto-advance in every QUEUED room. -/
theorem test_host_absence :
    let t := after .hostAbsenceExpiry { hall with ctp := { hall.ctp with period := 10 }, flc := { emptyFlc with
      queue := [⟨0, .normal, 3#40⟩] } }
    t.ctp.autonomous = true ∧ t.ctp.notices.head? = some (.hostAbsent 10) ∧ (t.speaker 0).isSome = true := by
  decide +kernel
/-- R213: power that comes on while RESET is low leaves the part held; its release is a cold start. -/
theorem test_power_and_reset :
    (after (.powerUp ⟨50, 50, 50, 50, 50⟩) { dark with resetLow := true }).running = false ∧
    (after (.resetRelease ⟨50, 50, 50, 50, 50⟩)
      (after (.powerUp ⟨50, 50, 50, 50, 50⟩) { dark with resetLow := true })).sts.cause = .cold ∧
    (after (.resetRelease ⟨50, 50, 50, 50, 50⟩) (after .resetAssert hall)).sts.cause = .pin ∧
    (after .powerLoss hall).running = false := by decide +kernel

/-! ### Hall -/

/-- R13: FOLLOW to HELD writes the current join into the held join; a settle time of 31 is taken as 30. -/
theorem test_wall_policy : ((sent (.wallPolicy 1#8 [2#8, 1#8, 31#8]) hall).wall 2).set = ⟨.held, .split, 30⟩ := by
  decide +kernel
/-- Example 2-3: WALL_SET of a HELD wall starts a regroup, and its withdrawal cancels it. -/
theorem test_wall_set :
    let t := sent (.wallSet 1#8 [5#8, 1#8]) (sent (.wallPolicy 1#8 [5#8, 1#8, 3#8]) hall)
    t.ptu.seq = .fadeOut ∧ t.ptu.affected = [5, 6] ∧
    (sent (.wallSet 1#8 [5#8, 0#8]) t).ptu.affected = [] := by decide +kernel
/-- R15: a segment of a joined room refuses with WRONG_STATE; a room on its own takes it. -/
theorem test_segment_privacy :
    (lastReply (sent (.segmentPrivacy 1#8 [1#8, 1#8]) joined)).map (·.payload) = some [7#8] ∧
    (sent (.segmentPrivacy 1#8 [3#8, 1#8]) hall).privacy 3 = .closed_ := by decide +kernel
/-- R24: a fade time below 50 is taken as 50. -/
theorem test_fade_time : (sent (.fadeTime 1#8 [0#8, 20#8]) hall).ptu.fadeTime = 50 := by decide +kernel
/-- R17, Table 1-1: limits above 48 and speech limits below 10 are clamped. -/
theorem test_room_template :
    ((sent (.roomTemplate 1#8
      [1#8, 0#8, 60#8, 1#8, 0x40#8, 0#8, 0#8, 5#8, 200#8, 1#8, 1#8, 1#8, 0#8, 0x2D#8, 0x41#8]) hall).segment 1).template =
      ⟨.direct, 48, true, 16384#16, 10, 120, .notify, .closeAll, true, false, 11585#16⟩ := by decide +kernel
/-- R19: the report's kind. -/
theorem test_hall_get : (lastReply (sent (.hallGet 1#8 []) hall)).map (fun f => (f.kind, f.payload.take 3)) =
    some (0x95#8, [0#8, 1#8, 1#8]) := by decide +kernel
/-- R6, R5: a reading of 96 is OPEN, one of 95 CLOSED; a new candidate starts at count 0. -/
theorem test_wall_measurement :
    ((after (.wallMeasurement ⟨96, 95, 31, 192, 0⟩) hall).wall 1).timer = some ⟨.opened, 0⟩ ∧
    ((after (.wallMeasurement ⟨96, 95, 31, 192, 0⟩) hall).wall 2).timer = some ⟨.closed, 0⟩ ∧
    ((after (.wallMeasurement ⟨96, 95, 31, 192, 0⟩) hall).wall 3).timer = none := by decide +kernel
/-- R7, R8: a settle that expires with OPEN requests JOINED. -/
theorem test_settle_expiry :
    ((after (.settleExpiry 1) (hall.setWall 1 fun w => { w with timer := some ⟨.opened, 60⟩, expired := true })).wall
      1).target = .joined := by decide +kernel
/-- Example 2-1: at the remap the current joins become the targets and the new room rises from 0. -/
theorem test_remap : (after .remap fallen).joins = [.joined, .split, .split, .split, .split] ∧
    ((after .remap fallen).room 1) = ⟨1, 2, 0, .up⟩ := by decide +kernel
/-- R37. -/
theorem test_fade_complete : (after .fadeComplete { fading with ptu := { fading.ptu with fadeDone := true } }).ptu.seq =
    .idle := by decide +kernel
/-- R26: an affected room falls by one place an audio frame. -/
theorem test_audio_frame_moves_rooms : ((after (.audioFrame []) fading).room 1).position = 9599 := by decide +kernel

/-! ### Lines and seats -/

/-- R56, R76. -/
theorem test_line_settings : ((sent (.linePower 1#8 [2#8, 1#8, 0#8, 0#8]) hall).line 2).set = ⟨.onCommand, false, false⟩ ∧
    ((sent (.lineIndicators 1#8 [2#8, 0#8]) hall).line 2).indicators = false := by decide +kernel
/-- R51: from STANDBY with origin RESUME, from OFF with origin START, 1.5 s each. -/
theorem test_line_wake : ((sent (.lineWake 1#8 [2#8]) lines).line 2).phase = .waking .resume 72000 ∧
    ((sent (.lineWake 1#8 [3#8]) lines).line 3).phase = .waking .start 72000 := by decide +kernel
/-- 11.4: LINE_STANDBY clears the indicator enable and the floor of the line. -/
theorem test_line_standby : ((sent (.lineStandby 1#8 [0#8]) talking).line 0).phase = .standby ∧
    ((sent (.lineStandby 1#8 [0#8]) talking).line 0).indicators = false ∧
    (sent (.lineStandby 1#8 [0#8]) talking).flc.speakers = [] := by decide +kernel
/-- R54, R55. -/
theorem test_line_off_and_census : ((sent (.lineOff 1#8 [0#8]) hall).line 0).phase = .off ∧
    ((sent (.lineOff 1#8 [0#8]) hall).seat 0).unit = none ∧
    ((sent (.lineCensus 1#8 [0#8]) hall).line 0).phase.state = .census := by decide +kernel
/-- R53. -/
theorem test_overcurrent : ((after (.overcurrent 0) hall).line 0).phase = .fault .overcurrent none := by decide +kernel
/-- R53: three misses of a unit in service. -/
theorem test_silent_unit :
    ((after (.silentUnit 0) (hall.setSeat 1 fun x => { x with miss := 3 })).line 0).phase = .fault .noResponse (some 2) := by
  decide +kernel
/-- 3.12, R49: an estimate that differs from the unit count. -/
theorem test_standby_current : ((after (.standbyCurrentMeasurement 2 7) lines).line 2).presenceChanged = true := by
  decide +kernel
/-- R52: a wake of origin RESUME with the flag clear ends in ACTIVE. -/
theorem test_wake_end : ((after (.wakeEnd 1) lines).line 1).phase = .active ∧
    ((after (.wakeEnd 2) counting).line 2).phase.state = .census := by decide +kernel
/-- R44: a result of 299 is a DELEGATE, 300 a CHAIR, 700 UNKNOWN. -/
theorem test_census_slot :
    let slot := fun r : BitVec 10 => match ((after (.censusSlot 2 (some ⟨5#32, r, true⟩))
        (after (.wakeEnd 2) counting)).line 2).phase with
      | .census c => c.found.map (·.kind)
      | _ => []
    slot 299#10 = [.delegate] ∧ slot 300#10 = [.chair] ∧ slot 699#10 = [.desk] ∧ slot 700#10 = [.unknown] := by
  decide +kernel
/-- R46: the notices of a completed census: seat 1 changed, seats 2 to 7 lost, two units. -/
theorem test_census_complete :
    (after (.censusComplete 0) counting).ctp.notices = [.seatChanged 1 7#32 .delegate 9#32 .chair, .seatLost 2 7#32,
      .seatLost 3 7#32, .seatLost 4 7#32, .seatLost 5 7#32, .seatLost 6 7#32, .seatLost 7 7#32, .censusDone 0 2,
      .lineState 0 .census .active .censusEnd] := by decide +kernel
/-- R75, R53: the miss count of a silent unit, the record of the others. -/
theorem test_indicator_refresh : ((after (.indicatorRefresh ⟨[], [1]⟩) hall).seat 1).miss = 1 ∧
    (((after (.indicatorRefresh ⟨[], [1]⟩) talking).seat 0).sent.map (·.ring)) = some .on := by decide +kernel
/-- R75: a change after position 1 of line 0 is shown at this refresh by position 2, and not yet by position 1. -/
theorem test_refresh_in_steps :
    let t := after (.indicatorRefresh ⟨[1], []⟩) talking
    let u := after (.indicatorRefresh ⟨[], []⟩) (sent (.roomCloseAll 1#8 [1#8]) (sent (.queueClear 1#8 [1#8]) t))
    (t.line 0).refresh = some 1 ∧ (t.seat 1).sent = none ∧ (u.line 0).refresh = none ∧
    ((u.seat 0).sent.map (·.ring), (u.seat 1).sent.map (·.request)) = (some .on, some .off) := by decide +kernel
/-- R57, R63: reports of a line and of a seat. -/
theorem test_line_and_seat_get :
    (lastReply (sent (.lineGet 1#8 [0#8]) hall)).map (·.kind) = some 0xA5#8 ∧
    (lastReply (sent (.seatGet 1#8 [0#8, 0#8]) hall)).map (·.kind) = some 0xA8#8 ∧
    (lastReply (sent (.seatGet 1#8 [1#8, 0#8]) hall)).map (·.payload) = some [5#8] := by decide +kernel
/-- R61: a seat with an open microphone refuses with WRONG_STATE. -/
theorem test_seat_place : (sent (.seatPlace 1#8 [0#8, 4#8, 2#8]) hall).placement 4 = some 2 ∧
    (lastReply (sent (.seatPlace 1#8 [0#8, 0#8, 2#8]) talking)).map (·.payload) = some [7#8] := by decide +kernel
/-- R62, R72: the trim; characters outside 20h..7Eh become a question mark. -/
theorem test_seat_trim_and_text :
    ((sent (.seatTrim 1#8 [0#8, 0#8, 0x80#8, 0#8]) hall).seat 0).set.trim = 0x8000#16 ∧
    ((sent (.seatText 1#8 [0#8, 0#8, 2#8, 0x41#8, 0x7F#8]) hall).seat 0).text = some [0x41#8, 0x3F#8] := by
  decide +kernel
/-- R69. -/
theorem test_flash_end : ((after (.flashEnd 4) (after (.talk 4) hall)).seat 4).flash = none ∧
    ((after (.talk 4) hall).seat 4).flash = some 96000 := by decide +kernel

/-! ### Floor -/

/-- R98; R97: an unplaced seat. -/
theorem test_mic_open : ((sent (.micOpen 1#8 [0#8, 0#8]) hall).speaker 0).isSome = true ∧
    (lastReply (sent (.micOpen 1#8 [0#8, 4#8]) hall)).map (·.payload) = some [21#8] := by decide +kernel
/-- R99, R123: the seconds of the turn go to the talk total. -/
theorem test_mic_close : ((sent (.micClose 1#8 [0#8, 0#8]) talking).seat 0).talkTotal = 12 ∧
    (sent (.roomCloseAll 1#8 [1#8]) talking).flc.speakers = [] := by decide +kernel
/-- R100, R101. -/
theorem test_requests : (sent (.requestAdd 1#8 [0#8, 1#8]) hall).flc.queue = [⟨1, .normal, 1#40⟩] ∧
    (sent (.requestRemove 1#8 [0#8, 1#8]) talking).flc.queue = [] ∧
    (sent (.queueClear 1#8 [1#8]) talking).flc.queue = [] := by decide +kernel
/-- R102: the head is opened and its seat is in the reply. -/
theorem test_grant_next : (lastReply (sent (.grantNext 1#8 [1#8]) talking)).map (·.payload) = some [0#8, 0#8, 1#8] := by
  decide +kernel
/-- R103. -/
theorem test_room_get : (lastReply (sent (.roomGet 1#8 [1#8]) talking)).map (·.kind) = some 0xB7#8 := by decide +kernel
/-- R120: 601 s are taken as 600, and the allowance becomes 610. -/
theorem test_speech_extend : (lastReply (sent (.speechExtend 1#8 [0#8, 0#8, 2#8, 0x59#8]) talking)).map (·.payload) =
    some [0#8, 2#8, 0x58#8, 2#8, 0x62#8] := by decide +kernel
/-- R124. -/
theorem test_talk_total_clear :
    ((sent (.talkTotalClear 1#8 [1#8, 0#8, 0#8]) (hall.setSeat 0 fun x => { x with talkTotal := 9 })).seat 0).talkTotal =
      0 := by decide +kernel
/-- Table 5-2, row QUEUED; R88: a TALK of a queued seat takes its request back. -/
theorem test_talk_queued : (after (.talk 1) hall).flc.queue = [⟨1, .normal, 1#40⟩] ∧
    (after (.talk 1) talking).flc.queue = [] := by decide +kernel
/-- R89: OVERRIDE displaces the oldest open delegate. -/
theorem test_talk_override :
    (after (.talk 1) { talking with
      ptu := (hallWith fun x => { x with mode := .override, limit := 1 }).ptu
      flc := { talking.flc with queue := [] } }).flc.speakers.map (·.seat) = [1] := by decide +kernel
/-- R91, 11.3: priority mutes the delegates and opens the chair; R92: its end closes the chair again. -/
theorem test_priority : (after (.priorityDown 2) talking).flc.speakers.map (fun e => (e.seat, e.muted)) =
      [(0, true), (2, false)] ∧
    (after (.priorityUp 2) priority).flc.speakers = [] ∧ (after (.priorityUp 2) priority).flc.holders = [] := by
  decide +kernel
/-- R116: the second that has come due; R118: past the allowance under CLOSE the microphone closes. -/
theorem test_speech_second :
    (after (.speechSecond 0) { talking with flc := { talking.flc with
      queue := []
      speakers := [{ newSpeaker 0 .delegate 4#40 .host with seconds := 9, secondDue := true }] } }).ctp.notices =
      [.speechWarning 0 1 10 10, .speechExpired 0 1 10 10 .close, .micClosed 0 1 .delegate .speechTime 10] := by
  decide +kernel
/-- R122, as in 11.1: after the remap the warning of a delegate past the warning point. -/
theorem test_remap_timer_check :
    (after .remapTimerCheck { hallWith (fun x => { x with speechLimit := 300 }) with flc := { emptyFlc with
      speakers := [{ newSpeaker 1 .delegate 4#40 .host with seconds := 280, oldLimit := some 0 }]
      checksDue := [1] } }).ctp.notices = [.speechWarning 1 1 280 300] := by decide +kernel
/-- Delegate 1 of 50 s moved into a room of limit 45 under CLOSE, before the first audio frame after the remap (R122). -/
def moved : State :=
  { hallWith (fun x => { x with speechLimit := 45 }) with flc := { emptyFlc with
      speakers := [{ newSpeaker 1 .delegate 4#40 .host with seconds := 50, oldLimit := some 120 }]
      checksWaiting := [1] } }
/-- R122: the check closes the microphone before the frame is computed, whether its row comes first or not. -/
theorem test_remap_check_before_audio :
    (after (.audioFrame [0#24, 100000#24]) moved).flc.speakers = [] ∧
    ((after (.audioFrame [0#24, 100000#24]) moved).mxe.computed.pa.getD 0 1) = 0 ∧
    (after .remapTimerCheck moved).flc.speakers = [] ∧ (after .remapTimerCheck moved).mxe.begun = true ∧
    (after (.audioFrame []) (after .remapTimerCheck moved)).mxe.begun = false := by decide +kernel
/-- R107, as in 11.1: the youngest delegate above the limit is closed and returned ahead of the NORMAL request. -/
theorem test_limit_after_remap :
    (({ hallWith (fun x => { x with limit := 2 }) with flc := { emptyFlc with
      speakers := [newSpeaker 0 .delegate 40#40 .host, newSpeaker 1 .delegate 45#40 .host, newSpeaker 7 .delegate 60#40 .host]
      queue := [⟨6, .normal, 52#40⟩] } }).closeExcess 1 .regroupLimit).flc.queue =
      [⟨7, .returned, 60#40⟩, ⟨6, .normal, 52#40⟩] := by decide +kernel

/-! ### Languages and the mix -/

/-- R133: retagging a channel of an enabled booth is WRONG_STATE; R129: an enabled channel 4 of tag AAA in S1 is a SHADOW. -/
theorem test_channel_setup :
    (lastReply (sent (.channelSetup 1#8 [1#8, 1#8, 67#8, 65#8, 65#8, 1#8]) hall)).map (·.payload) = some [7#8] ∧
    (sent (.channelSetup 1#8 [4#8, 1#8, 65#8, 65#8, 65#8, 1#8]) hall).role 4 = .shadow 1 := by decide +kernel
/-- R135: a channel of another enabled booth; a booth that passes. -/
theorem test_booth_setup :
    (lastReply (sent (.boothSetup 1#8 [3#8, 1#8, 1#8, 1#8, 0#8, 0#8]) hall)).map (·.payload) = some [16#8] ∧
    (sent (.boothSetup 1#8 [1#8, 1#8, 1#8, 2#8, 1#8, 0#8]) hall).booth 1 = ⟨true, 1, 2, 1, .refuse⟩ := by decide +kernel
/-- R137. -/
theorem test_desk_assign : ((sent (.deskAssign 1#8 [0#8, 7#8, 2#8]) hall).seat 7).set.booth = some 2 := by decide +kernel
/-- R152: the report of the 24 channels and 16 booths. -/
theorem test_language_get : (lastReply (sent (.languageGet 1#8 []) hall)).map (·.kind) = some 0xC3#8 := by decide +kernel
/-- R148. -/
theorem test_monitor_route : (sent (.monitorRoute 1#8 [2#8, 2#8, 3#8]) hall).monitor 2 = .channel 3 := by decide +kernel
/-- R138: a desk goes on air on its A channel, and off at the next press. -/
theorem test_desk_talk : (after (.talk 3) hall).ctp.notices = [.deskLive 3 1 1 1] ∧
    (after (.talk 3) onAir).ctp.notices = [.deskOff 3 1 1 .seat] := by decide +kernel
/-- R140, R142, R145. -/
theorem test_selects : ((after (.outputSelect 3 .b) hall).seat 3).desk.output = .b ∧
    ((after (.inputSelect 3 3) hall).seat 3).desk.input = 0 ∧ ((after (.listenSelect 0 2) hall).seat 0).listen = 2 ∧
    ((after (.listenSelect 0 3) hall).seat 0).listen = 0 := by decide +kernel
/-- R129, R147 and 11.1: when S1 and S2 join, channel 3 becomes the SHADOW of channel 1 and booth 2 is parked. -/
theorem test_language_remap : joined.role 3 = .shadow 1 ∧ joined.parked 2 = true ∧
    (after .remap { fallen with ctp := { fallen.ctp with notices := [] } }).ctp.notices.take 2 =
      [.channelRole 3 1 .primary (.shadow 1), .boothParked 2 1 3 1] := by decide +kernel
/-- R178: the clip records are cleared. -/
theorem test_clip_get :
    (sent (.clipGet 1#8 []) { hall with mxe := { hall.mxe with channels := List.replicate 24 ⟨true, 9⟩ } }).mxe.channels =
      List.replicate 24 clearClip := by decide +kernel

/-- Three microphones of S1 (Case 8-1): trims 16384, 20000 and 16384. -/
def threeOpen : State :=
  { hall.setSeat 1 fun x => { x with set := { x.set with trim := 20000#16 } } with flc := { emptyFlc with
      speakers := [newSpeaker 0 .delegate 1#40 .host, newSpeaker 1 .delegate 2#40 .host, newSpeaker 7 .delegate 3#40 .host] } }

/-- The samples of Case 8-1 on seats 0, 1 and 7. -/
def threeSamples : List Sample := [2000000#24, BitVec.ofInt 24 (-1500000), 0#24, 0#24, 0#24, 0#24, 0#24, 3000000#24]

/-- Cases 8-1 and 8-4. -/
theorem test_case_8_1 : threeOpen.roomCoefficient 1 = 9459 ∧ busOutput (threeOpen.floorBuses threeSamples) 1 = 1829532 ∧
    threeOpen.channelOutput threeSamples (threeOpen.floorBuses threeSamples) 1 = 1293648 := by decide +kernel
/-- Case 8-2: the same at position 4800 of K = 9600. -/
theorem test_case_8_2 :
    let s := { threeOpen with ptu := { threeOpen.ptu with rooms := [⟨1, 1, 4800, .down⟩] } }
    s.roomCoefficient 1 = 4730 ∧ busOutput (s.floorBuses threeSamples) 1 = 914863 := by decide +kernel
/-- Case 8-5: a desk with trim 24576 at fade level 4096. -/
theorem test_case_8_5 :
    let s := { onAir.setSeat 3 fun x => { x with set := { x.set with trim := 24576#16 } } with
      ptu := { hall.ptu with rooms := [⟨1, 1, 2400, .up⟩] } }
    s.channelOutput [0#24, 0#24, 0#24, 1000001#24] [] 1 = 375001 ∧
    s.channelOutput [0#24, 0#24, 0#24, BitVec.ofInt 24 (-1000001)] [] 1 = -375000 := by decide +kernel
/-- Case 8-6: trim 2.0 and a sample of 8 000 000 saturate. -/
theorem test_case_8_6 :
    let s := { hall.setSeat 0 fun x => { x with set := { x.set with trim := 32768#16 } } with flc := { emptyFlc with
      speakers := [newSpeaker 0 .delegate 1#40 .host] } }
    s.floorBus [8000000#24] 1 = 16000000 ∧ busOutput (s.floorBuses [8000000#24]) 1 = 8388607 ∧
    ((s.computeAudio [8000000#24]).roomMix 1).clip = ⟨true, 1⟩ ∧
    s.channelOutput [8000000#24] (s.floorBuses [8000000#24]) 1 = 5931519 := by decide +kernel

/-! ### The hypotheses of the statements are met -/

/-- What a valid frame leaves before its command is handled: the statements' states are `listening` to these. -/
theorem listening_heard {s : State}
    (h : (s.ctp.autonomous, s.ctp.absenceFrames, s.ctp.transfer) = (false, 0, some ⟨.none, true⟩)) :
    (listening s).heard = s := by
  obtain ⟨ctp, ptu, slc, flc, lgr, mxe, sts, stamp, powered, resetLow, started, pending⟩ := s
  obtain ⟨mask, attn, pulses, pulse, period, frames, autonomous, replies, notices, loss, transfer⟩ := ctp
  simp only [Prod.mk.injEq] at h
  obtain ⟨rfl, rfl, rfl⟩ := h
  rfl

/-- A running part with a free reply place takes a command of one reply frame. -/
theorem listening_accepts {s : State}
    (h : (s.ctp.autonomous, s.ctp.absenceFrames, s.ctp.transfer) = (false, 0, some ⟨.none, true⟩))
    (hr : (s.running, s.hasRoom 1) = (true, true)) : Accepts (listening s) 1 := by
  simp only [Prod.mk.injEq] at hr
  exact ⟨hr.1, rfl, by rw [listening_heard h]; exact hr.2⟩

theorem hall_heard : (listening hall).heard = hall := listening_heard (by decide)
theorem talking_heard : (listening talking).heard = talking := listening_heard (by decide)
theorem priority_heard : (listening priority).heard = priority := listening_heard (by decide)
theorem full_heard : (listening full).heard = full := listening_heard (by decide)
theorem lines_heard : (listening lines).heard = lines := listening_heard (by decide)
theorem counting_heard : (listening counting).heard = counting := listening_heard (by decide)
theorem fading_heard : (listening fading).heard = fading := listening_heard (by decide +kernel)
theorem joined_heard : (listening joined).heard = joined := listening_heard (by decide +kernel)
theorem onAir_heard : (listening onAir).heard = onAir := listening_heard (by decide)

/-- Each of these states takes a command while it listens. -/
theorem all_accept : ∀ s ∈ [hall, talking, priority, full, lines, counting, fading, joined, onAir], Accepts (listening s) 1 := by
  have h : ([hall, talking, priority, full, lines, counting, fading, joined, onAir].all fun s =>
      decide ((s.ctp.autonomous, s.ctp.absenceFrames, s.ctp.transfer) = (false, 0, some ⟨.none, true⟩)) &&
        decide ((s.running, s.hasRoom 1) = (true, true))) = true := by decide +kernel
  intro s hs
  have := List.all_eq_true.mp h s hs
  simp only [Bool.and_eq_true, decide_eq_true_eq] at this
  exact listening_accepts this.1 this.2

/-- A seat of the kind given in service, from its three parts. -/
theorem inService {s : State} {n : Nat} {k : Kind}
    (h : (decide (n ≤ 255) && s.seatActive n && decide ((s.seat n).kind = some k)) = true) : SeatInService s n k := by
  simp only [Bool.and_eq_true, decide_eq_true_eq] at h
  exact ⟨h.1.1, h.1.2, h.2⟩

/-- The sizes of a state's tables, from their lengths. -/
theorem sized {s : State}
    (h : [s.ptu.walls.length, s.ptu.segments.length, s.slc.lines.length, s.slc.seats.length, s.lgr.channels.length,
      s.lgr.booths.length, s.lgr.monitors.length, s.mxe.channels.length] = [5, 6, 4, 256, 24, 16, 2, 24])
    (hi : s.sts.image.contents = factorySettings) (hs : s.sts.saving = none) : TablesSized s := by
  simp only [List.cons.injEq, and_true] at h
  obtain ⟨h1, h2, h3, h4, h5, h6, h7, h8⟩ := h
  refine ⟨h1, h2, h3, h4, h5, h6, h7, h8, ?_, fun x hx => by rw [hs] at hx; cases hx⟩
  rw [hi]
  constructor <;> exact List.length_replicate

theorem hall_sized : TablesSized hall := sized (by decide +kernel) (by decide +kernel) rfl

/-- StartEventsRunTheSequence: a part without power, with RESET released and held low; a running part with RESET low; a
part that accepts a RESTART. StartSequenceSetsUp: an image that was never written. -/
theorem witness_StartEvents : dark.powered = false ∧ dark.resetLow = false ∧ { dark with resetLow := true }.resetLow = true ∧
    (after .resetAssert hall).powered = true ∧ (after .resetAssert hall).resetLow = true ∧
    (after .resetAssert hall).started = true := by decide +kernel
theorem witness_StartSequence : hall.loaded.Sized := by
  have h : hall.loaded = factorySettings ∨ hall.loaded = hall.sts.image.contents := by
    unfold State.loaded; split
    · exact .inr rfl
    · exact .inl rfl
  rcases h with h | h <;> rw [h] <;> constructor <;> exact List.length_replicate
/-- HeldPartTakesNothing. -/
theorem witness_HeldPart : dark.running = false ∧ isPowerEvent (.talk 0) = false ∧
    (match exec (.talk 0) dark with | .next t => t == dark | _ => false) = true ∧ hall.resetLow = false := by
  decide +kernel
/-- The invariants: each premise holds at reset (its proof is a statement's), and a step from there answers next. -/
theorem witness_Steps :
    (match step { State.reset with pending := [.talk 0] } with | .next _ => true | _ => false) = true := by
  decide +kernel
theorem witness_QueuesAndPools : QueuesBounded hall ∧ PoolsBounded hall := by
  constructor <;> constructor <;> decide +kernel
theorem witness_FloorLaws : FloorLaws hall := by constructor <;> decide
theorem witness_LimitLaws : LimitLaws hall :=
  ⟨by decide +kernel, by decide, by decide, .inr (by decide)⟩
/-- OnlyEventsOfMissingUnitsStop: the first seat, line and wall that do not exist. -/
theorem witness_MissingUnits : stops (.talk 256) hall .noSuchSeat = true ∧ stops (.overcurrent 4) hall .noSuchLine = true ∧
    stops (.settleExpiry 0) hall .noSuchWall = true ∧ stops (.settleExpiry 6) hall .noSuchWall = true ∧
    (Instr.talk 255).wellFormed = true := by decide +kernel
/-- FramesReadBack. -/
theorem witness_FramesReadBack : (Instr.micOpen 1#8 [0#8, 7#8]).wellFormed = true ∧
    frameOf (.micOpen 1#8 [0#8, 7#8]) = some ⟨0x30#8, 1#8, [0#8, 7#8]⟩ ∧ (0x00#8 : Byte) ≠ syncByte := by decide
/-- HostAbsenceAndReturn: a part that is autonomous and keeps the laws of the floor. -/
theorem witness_Autonomous :
    let s : State := { hall with ctp := { hall.ctp with period := 2, autonomous := true } }
    LimitLaws s ∧ s.ctp.autonomous = true :=
  ⟨⟨by decide +kernel, by decide, by decide, .inr (by decide)⟩, rfl⟩
/-- HostAbsenceAndReturn: a part that supervises its host, and one that is autonomous with places for notices. -/
theorem witness_HostAbsence :
    let s := { hall with ctp := { hall.ctp with period := 2 } }
    s.running = true ∧ s.ctp.period ≠ 0 ∧ s.ctp.autonomous = false ∧ s.ctp.mask.getLsbD 0 = true ∧
    s.ctp.notices.length < 56 ∧
    let t := after .hostAbsenceExpiry s
    t.ctp.autonomous = true ∧ t.ctp.notices.length < 56 ∧ t.heard.ctp.notices.getLast? = some (.hostBack 2) := by
  decide +kernel
/-- UnfitFramesChangeNothing: eight replies waiting, and seven, where the languages' report of two parts finds one place; a
payload one byte short. -/
theorem witness_UnfitFrames :
    let s := fun n => listening { hall with ctp := { hall.ctp with replies := List.replicate n ⟨0x81#8, 1#8, [0#8]⟩ } }
    (s 8).running = true ∧ (s 8).inboundIgnored = false ∧ 8 ≤ (s 8).ctp.replies.length ∧
    8 < (s 7).ctp.replies.length + partCount 510 ∧ 8 < (s 8).ctp.replies.length + partCount (s 8).heard.hallReport.length ∧
    frameOf (.micOpen 1#8 [0#8]) = some ⟨0x30#8, 1#8, [0#8]⟩ ∧ payloadLength 0x30#8 = some 2 ∧
    (Instr.micOpen 1#8 [0#8]).wellFormed = true ∧ [0#8, 1#8].length < 3 := by decide +kernel
/-- ReportCommandsAnswer: places for every report; lines 3 and 4, seats 255 and 256, segments 0, 1, 6 and 7. -/
theorem witness_Reports : (listening hall).running = true ∧ (listening hall).inboundIgnored = false ∧
    hall.hasRoom (partCount hall.statusReport.length) = true ∧ hall.hasRoom (partCount hall.hallReport.length) = true ∧
    hall.hasRoom (partCount (hall.lineReport 3).length) = true ∧ hall.hasRoom (partCount (hall.seatReport 255).length) = true ∧
    hall.hasRoom (partCount (hall.floorReport (hall.roomOf 6)).length) = true ∧
    hall.hasRoom (partCount hall.languageReport.length) = true ∧ hall.hasRoom (partCount hall.clipReport.length) = true ∧
    [3#8, 4#8].map (fun l => code (.lineGet 1#8 [l]) hall) = [some 0#8, some 5#8] ∧
    [(0#8, 255#8), (1#8, 0#8)].map (fun n => code (.seatGet 1#8 [n.1, n.2]) hall) = [some 0#8, some 5#8] ∧
    [0#8, 1#8, 6#8, 7#8].map (fun g => code (.roomGet 1#8 [g]) hall) = [some 5#8, some 0#8, some 0#8, some 5#8] := by
  decide +kernel
/-- ReportIsCutInParts: 509 bytes travel in one part, 510 in two. -/
theorem witness_Parts : ((Reply.report (List.replicate 509 0#8)).frames 1#8 1#8).length = 1 ∧
    ((Reply.report (List.replicate 510 0#8)).frames 1#8 1#8).length = 2 := by decide +kernel
/-- NoticeIsTakenByTheTable: a class disabled, a free place, a full queue. -/
theorem witness_Notice : (Notice.seatUnplaced 3).cls ≠ .system ∧
    ({ hall.ctp with mask := 0x01#8 }).mask.getLsbD (Notice.seatUnplaced 3).cls.bit = false ∧
    hall.ctp.mask.getLsbD (Notice.seatUnplaced 3).cls.bit = true ∧ hall.ctp.notices.length < 56 ∧
    56 ≤ (List.replicate 56 Notice.storeInvalid).length ∧ Notice.storeInvalid.cls = .system := by decide
/-- MaskProfileAndFadeTimeAreSet, AttnSetActs, SupervisionSetsThePeriod: beside `hall_accepts`, the operands at their ends. -/
theorem witness_PortSettings : profileValues[2]? = some .language ∧ profileValues[3]? = none ∧ QueuesBounded (listening hall).heard :=
  ⟨by decide, by decide, by rw [hall_heard]; exact witness_QueuesAndPools.1⟩
/-- BadFramesAreDiscarded: a check value one off, a length of 513; a transfer whose frame has been taken, no transfer, and one
that still listens. -/
theorem witness_BadFrames : 0xE755#16 ≠ frameCheck 0x01#8 0x05#8 [] ∧ 512 < (513#16).toNat ∧
    hall.inboundIgnored = true ∧ State.reset.inboundIgnored = true ∧ (listening hall).inboundIgnored = false ∧
    (frameOf (.micOpen 1#8 [0#8, 0#8])).isSome = true := by decide +kernel
/-- TransferSendsTheHead: no transfer, a reply waiting, a notice waiting, losses counted, a partial frame. -/
theorem witness_Transfer :
    let s := { hall with ctp := { hall.ctp with
      replies := [⟨0x81#8, 1#8, [0#8]⟩], notices := [.storeInvalid], loss := 1, transfer := some ⟨.notice, false⟩ } }
    (after (.chipSelectRelease []) s).ctp.transfer = none ∧ s.running = true ∧ s.ctp.loss ≠ 0 ∧
    (after .outboundFrameSent s).ctp.notices = [.noticeLoss 1] ∧ s.outboundBytes.length = 9 ∧ [0xC6#8] ≠ [] := by
  decide +kernel
/-- AttnPulsesAndLevels: the enable OFF; both modes; a pulse asserted, released, and none left. -/
theorem witness_Attn :
    let s := fun p n => { hall with ctp := { hall.ctp with attn := ⟨true, .pulse, 0⟩, pulse := p, pulses := n } }
    let off := { hall with ctp := { hall.ctp with attn := ⟨false, .pulse, 0⟩, notices := [.storeInvalid], loss := 1, transfer := none } }
    off.ctp.attn.enable = false ∧ (after .transferStart off).ctp.transfer = some ⟨.notice, false⟩ ∧
    (after .outboundFrameSent (after .transferStart off)).ctp.notices = [.noticeLoss 1] ∧
    hall.ctp.attn.enable = true ∧ hall.ctp.attn.mode = .level ∧ (s .asserted 1).ctp.attn.mode = .pulse ∧
    (after .attnPulse (s .idle 1)).attn = true ∧ (after .attnPulse (s .gap 0)).attn = false := by decide +kernel
/-- SaveTakesAndStoresASnapshot: no save and a save in progress. -/
theorem witness_Save : hall.sts.saving = none ∧ (sent (.settingsSave 1#8 []) hall).sts.saving.isSome = true ∧
    (sent (.settingsSave 1#8 []) hall).running = true := by decide +kernel
/-- FactoryDefaultsRestoreEverySetting, SegmentPrivacyActs, WallCommandsAct, RoomTemplateReplaces: the table sizes. -/
theorem witness_Sizes : TablesSized (listening hall).heard := by rw [hall_heard]; exact hall_sized
/-- WallCommandsAct: walls 0, 1, 5 and 6; each policy; a request that changes the target and one that conflicts. -/
theorem witness_WallCommands :
    [0#8, 1#8, 5#8, 6#8].map (fun k => code (.wallPolicy 1#8 [k, 1#8, 3#8]) hall) = [some 5#8, some 0#8, some 0#8, some 5#8] ∧
    [0#8, 1#8, 5#8, 6#8].map (fun k => code (.wallSet 1#8 [k, 1#8]) hall) = [some 5#8, some 0#8, some 0#8, some 5#8] ∧
    (hall.wall 5).set.policy = .follow ∧ (fading.wall 1).set.policy = .held ∧ (fading.wall 1).target = .joined ∧
    (sent (.wallSet 1#8 [1#8, 0#8]) fading).ptu.affected = [] ∧
    ((sent (.wallSet 1#8 [5#8, 1#8]) ((hall.setSegment 6 fun x => { x with privacy := .closed_ }).setWall 5 fun w =>
      { w with set := { w.set with policy := .held } })).ctp.notices = [.wallConflict 5 true .open_ .closed_]) := by
  decide +kernel
/-- SegmentPrivacyActs: segments 0, 1, 6 and 7; a joined room, a falling room, the same privacy and the other, and a
monitor on the segment's floor. -/
theorem witness_SegmentPrivacy :
    [0#8, 1#8, 6#8, 7#8].map (fun g => code (.segmentPrivacy 1#8 [g, 1#8]) hall) = [some 5#8, some 0#8, some 0#8, some 5#8] ∧
    (joined.roomOf 2 ≠ 2 ∧ lastOf joined.joins 1 ≠ 1) ∧
    (fading.roomOf 1 = 1 ∧ lastOf fading.joins 1 = 1 ∧ (fading.room 1).direction ≠ .steady) ∧
    (hall.roomOf 6 = 6 ∧ lastOf hall.joins 6 = 6 ∧ (hall.room 6).direction = .steady ∧ hall.privacy 6 = .open_) ∧
    (hall.setMonitor 1 (.floor 6)).monitor 1 = .floor 6 ∧ (hall.channel 1).home = 1 ∧
    (sent (.segmentPrivacy 1#8 [1#8, 1#8]) ((hall.setMonitor 1 (.channel 1)).setMonitor 2 (.floor 1))).ctp.notices =
      [.monitorCleared 1 (.channel 1) .privacy, .monitorCleared 2 (.floor 1) .privacy] ∧
    (sent (.segmentPrivacy 1#8 [6#8, 1#8]) hall).ctp.notices = [] := by decide +kernel
/-- A template of the mode given with limit 1, under CLOSE_ALL and a speech limit of 10 s. -/
def fieldsOf (mode : Byte) : List Byte :=
  [mode, 1#8, 1#8, 0x40#8, 0#8, 0#8, 10#8, 5#8, 1#8, 1#8, 1#8, 1#8, 0x2D#8, 0x41#8]
/-- RoomTemplateReplaces: fields that fit and fields that do not; segments 0, 1, 6 and 7; a segment that leads no room; a queue
emptied, delegates closed under priority, and a delegate above the limit returned or, with no request entry free, dropped. -/
theorem witness_RoomTemplate :
    templateOf [3#8, 0#8, 60#8, 1#8, 0#8, 0#8, 0#8, 0#8, 0#8, 0#8, 0#8, 0#8, 0#8, 0#8] = none ∧
    (templateOf (fieldsOf 1#8)).isSome = true ∧ joined.roomOf 2 ≠ 2 ∧ hall.roomOf 6 = 6 ∧
    [0#8, 1#8, 6#8, 7#8].map (fun g => code (.roomTemplate 1#8 (g :: fieldsOf 1#8)) hall) =
      [some 5#8, some 0#8, some 0#8, some 5#8] ∧
    (sent (.roomTemplate 1#8 (1#8 :: fieldsOf 0#8)) talking).flc.queue = [] ∧
    (sent (.roomTemplate 1#8 (1#8 :: fieldsOf 1#8)) { talking with flc := { talking.flc with holders := [2] } }).flc.speakers =
      [] ∧
    (sent (.roomTemplate 1#8 (1#8 :: fieldsOf 1#8)) { hall with flc := { emptyFlc with
      speakers := [newSpeaker 0 .delegate 1#40 .host, newSpeaker 1 .delegate 2#40 .host] } }).flc.queue =
      [⟨1, .returned, 2#40⟩] ∧
    (sent (.roomTemplate 1#8 (1#8 :: fieldsOf 1#8)) { hall with flc := { emptyFlc with
      queue := List.replicate 96 ⟨6, .normal, 8#40⟩
      speakers := [newSpeaker 0 .delegate 1#40 .host, newSpeaker 1 .delegate 2#40 .host] } }).ctp.notices =
      [.micClosed 1 1 .delegate .limit 0, .requestDropped 1 1 .limit] := by decide +kernel
/-- W1 with a settle to OPEN that has expired and was not taken. -/
def marked : State := hall.setWall 1 fun w => { w with timer := some ⟨.opened, 60⟩, expired := true }
/-- WallMeasurementDrivesTimers: the band ends, walls with the timer idle, and a measurement that finds a mark: the settle is
taken first, so that the reading 96 presents no new candidate (R6, R7; log 4). -/
theorem witness_WallMeasurement : bandOf 31#8 = .fault ∧ bandOf 32#8 = .closed ∧ bandOf 95#8 = .closed ∧
    bandOf 96#8 = .opened ∧ bandOf 191#8 = .opened ∧ bandOf 192#8 = .fault ∧ (∀ x ∈ hall.ptu.walls, x.expired = false) ∧
    (hall.wall 1).timer = none ∧ (hall.wall 1).settled = .fault ∧
    ((after (.wallMeasurement ⟨96, 96, 96, 96, 96⟩) hall).wall 1).timer = some ⟨.opened, 0⟩ ∧
    marked.running = true ∧ marked.ptu.walls.length = 5 ∧ (marked.settlesTaken.wall 1).settled = .opened ∧
    ((after (.wallMeasurement ⟨96, 96, 96, 96, 96⟩) marked).wall 1).timer = none := by decide +kernel
/-- SettleExpiryTakesTheCandidate: a wall whose mark stands, and walls without one. -/
theorem witness_SettleExpiry :
    let s := hall.setWall 5 fun w => { w with timer := some ⟨.fault, 60⟩, expired := true }
    s.running = true ∧ s.ptu.walls.length = 5 ∧ (s.wall 5).timer = some ⟨.fault, 60⟩ ∧ (s.wall 5).expired = true ∧
    s.ctp.mask.getLsbD 1 = true ∧ s.ctp.notices.length < 56 ∧
    (after (.settleExpiry 5) (s.setWall 5 fun w => { w with settled := .closed })).ctp.notices =
      [.wallSensor 5 .closed .fault 0#8, .wallFault 5 .short 0#8] ∧
    (hall.wall 5).timer = none ∧ (s.wall 1).expired = false := by decide +kernel
/-- TargetVectorIsReceived: targets that differ from the joins, and a withdrawn target during the fade-out. -/
theorem witness_TargetVector : fading.wallTargets ≠ fading.joins ∧ fading.ptu.seq = .fadeOut ∧
    let s := fading.setWall 1 fun w => { w with target := .split }
    s.wallTargets = s.joins ∧ s.ptu.seq = .fadeOut ∧ s.ptu.affected ≠ [] ∧
    fallen.ptu.remapDue = true ∧ fallen.receiveTargets.ptu.remapDue = false := by decide +kernel
theorem fallen_sized : TablesSized fallen := sized (by decide +kernel) (by decide +kernel) (by decide +kernel)
/-- RemapAndFadeCompleteAct: a remap that is due, with the tables of `fallen_sized`, one that finds a timer check due, and one
that waits for the frame under way to be computed. -/
theorem witness_Remap : fallen.running = true ∧ fallen.ptu.remapDue = true ∧ fallen.flc.checksDue = [] ∧
    due.running = true ∧ due.ptu.remapDue = true ∧ due.mxe.begun = false ∧ due.flc.checksDue ≠ [] ∧
    fallen.mxe.begun = false ∧ (fallen.setBegun true).mxe.begun = true ∧ (fallen.flc.speakers.map (·.seat)).Nodup ∧
    ({ hall with ptu := { hall.ptu with fadeDone := true } }).ptu.fadeDone = true ∧ hall.ptu.fadeDone = false := by
  decide +kernel

/-- FloorChecksComeInOrder, SpeechExtendAndTalkTotalClear: seats 255 and 256, a line that is down, an ABSENT seat, a kind that does not fit, no placement. -/
theorem witness_FloorChecks : 255 < 1 * 256 + 0 ∧ lines.seatActive 255 = false ∧ hall.seatActive 8 = true ∧
    (hall.seat 8).kind = none ∧ SeatInService hall 3 .desk ∧ SeatInService hall 4 .delegate ∧ hall.placement 4 = none :=
  ⟨by decide, by decide, by decide, by decide, inService (by decide +kernel), inService (by decide +kernel),
    by decide +kernel⟩
/-- FloorProceduresAct. -/
theorem witness_FloorProcedures : hall.speaker 0 = none ∧ (talking.speaker 0).isSome = true ∧ hall.request 1 = none ∧
    hall.seatRoom 1 = some 1 ∧ (talking.request 1).isSome = true ∧ 1 < talking.slc.seats.length ∧
    hall.ctp.mask.getLsbD 3 = true := by decide +kernel
/-- AdvanceRuleGrants: a full pool; a request and no eligible room; a request of an eligible room. -/
theorem witness_Advance : full.pool ≤ full.openCount ∧
    (∀ q ∈ talking.flc.queue, talking.eligible (talking.seatRoomCode q.seat) = false) ∧
    let s := { hallWith (fun x => { x with autoAdvance := true }) with flc := { emptyFlc with queue := [⟨1, .normal, 8#40⟩] } }
    s.openCount < s.pool ∧ (s.flc.queue.find? fun x => s.eligible (s.seatRoomCode x.seat)) = some ⟨1, .normal, 8#40⟩ := by
  decide +kernel
/-- HostOpensAndCloses: open, under priority, at the limit, with a full pool, and free; segments 0, 1, 6 and 7. -/
theorem witness_HostOpens : SeatInService hall 0 .delegate ∧ SeatInService hall 2 .chair ∧ SeatInService talking 0 .delegate ∧
    (hall.placement 0).isSome = true ∧ (talking.speaker 0).isSome = true ∧ hall.speaker 0 = none ∧
    priority.holdersIn (priority.seatRoomCode 0) ≠ [] ∧ hall.holdersIn (hall.seatRoomCode 0) = [] ∧
    (let s := { talking with ptu := (hallWith fun x => { x with limit := 1 }).ptu };
      (s.settings (s.seatRoomCode 1)).limit ≤ s.delegateCount (s.seatRoomCode 1)) ∧
    full.pool ≤ full.openCount ∧ full.speaker 0 = none ∧ ¬hall.pool ≤ hall.openCount ∧
    [0#8, 1#8, 6#8, 7#8].map (fun g => code (.roomCloseAll 1#8 [g]) talking) = [some 5#8, some 0#8, some 0#8, some 5#8] :=
  ⟨inService (by decide +kernel), inService (by decide +kernel), inService (by decide +kernel), by decide +kernel⟩
/-- HostServesTheQueue: QUEUED and another mode; open, queued, 96 requests, and free; each condition of GRANT_NEXT. -/
theorem witness_HostQueue : (hall.settings 1).mode = .queued ∧ (hallWith fun x => { x with mode := .direct }).settings 1 ≠
      hall.settings 1 ∧ hall.request 1 = none ∧ hall.speaker 1 = none ∧ hall.flc.queue.length < 96 ∧
    96 ≤ (List.replicate 96 (⟨6, .normal, 8#40⟩ : Request)).length ∧ hall.queueIn 1 = [] ∧
    talking.queueIn 1 = [⟨1, .normal, 8#40⟩] ∧
    (sent (.queueClear 1#8 [1#8]) talking).ctp.notices = [.requestRemoved 1 1 .cleared] ∧ talking.holdersIn 1 = [] ∧
    talking.delegateCount 1 < (talking.settings 1).limit ∧ talking.openCount < talking.pool ∧
    ({ talking with flc := { talking.flc with holders := [2] } }).holdersIn 1 ≠ [] ∧
    [0#8, 1#8, 6#8, 7#8].map (fun g => code (.queueClear 1#8 [g]) talking) = [some 5#8, some 0#8, some 0#8, some 5#8] ∧
    [0#8, 1#8, 6#8, 7#8].map (fun g => code (.grantNext 1#8 [g]) talking) = [some 5#8, some 0#8, some 6#8, some 5#8] := by
  decide +kernel
/-- SpeechExtendAndTalkTotalClear: open with room for an extension and with none; seats 255 and 256 under ONE. -/
theorem witness_SpeechExtend : SeatInService talking 0 .delegate ∧ (talking.speaker 0).map (·.extension) = some 0 ∧
    talking.speaker 1 = none ∧ (talking.setSpeaker 0 fun e => { e with extension := 3600 }).flc.speakers.map (·.extension) =
      [3600] ∧ 0 * 256 + 255 ≤ 255 :=
  ⟨inService (by decide +kernel), by decide +kernel⟩
/-- DelegateTalkFollowsTheMode: open, queued, and neither, in each mode with and without a slot, a limit and holders. -/
theorem witness_DelegateTalk : SeatInService hall 0 .delegate ∧ hall.placement 0 = some 1 ∧
    (talking.speaker 0).isSome = true ∧ (talking.settings 1).delegateClose = true ∧ talking.speaker 1 = none ∧
    (talking.request 1).isSome = true ∧ hall.speaker 0 = none ∧ hall.request 0 = none ∧ (hall.settings 1).mode = .queued ∧
    ((hallWith fun x => { x with mode := .direct }).settings 1).mode = .direct ∧
    ((hallWith fun x => { x with mode := .override }).settings 1).mode = .override ∧
    priority.holdersIn 1 ≠ [] ∧ hall.delegateCount 1 < (hall.settings 1).limit ∧ ¬full.openCount < full.pool ∧
    full.delegatesIn 1 = [] ∧ talking.delegatesIn 1 ≠ [] :=
  ⟨inService (by decide +kernel), by decide +kernel⟩
/-- ChairTalkAndPriority: open, closed with a slot and without; a holder and none; both priority actions. -/
theorem witness_Chair : SeatInService hall 2 .chair ∧ hall.placement 2 = some 1 ∧ (priority.speaker 2).isSome = true ∧
    hall.speaker 2 = none ∧ hall.openCount < hall.pool ∧ ¬full.openCount < full.pool ∧ 2 ∈ priority.flc.holders ∧
    2 ∉ hall.flc.holders ∧ hall.holdersIn 1 = [] ∧ (hall.settings 1).priorityAction = .muteOnly ∧
    ((hallWith fun x => { x with priorityAction := .closeAll }).settings 1).priorityAction = .closeAll ∧
    ({ hall with flc := { emptyFlc with holders := [1] } }).holdersIn 1 ≠ [] :=
  ⟨inService (by decide +kernel), by decide +kernel⟩
/-- TimerCheckActsByCases, SpeechSecondAndRemapTimerCheck: past the allowance, below it, a chair; a second due and none; a
room whose check is due. -/
theorem witness_Timer : (talking.speaker 0).map (fun e => (e.kind, e.seconds, e.secondDue)) = some (.delegate, 12, false) ∧
    (talking.settings 1).speechLimit = 10 ∧ (hall.settings 1).speechLimit = 0 ∧ (talking.settings 1).expiryAction = .close ∧
    (priority.speaker 2).map (·.kind) = some .chair ∧ hall.flc.checksDue = [] ∧
    (let s := talking.setSpeaker 0 fun e => { e with secondDue := true };
      (s.speaker 0).map (·.secondDue) = some true) ∧
    (talking.flc.speakers.map (·.seat)).Nodup := by decide +kernel
/-- A state with nothing due, from its five parts. -/
theorem nothingDue {s : State}
    (h : (s.flc.checksDue.isEmpty && s.flc.speakers.all (fun e => !e.secondDue) && !s.ptu.fadeDone && !s.ptu.remapDue &&
      !s.mxe.begun) = true) : NothingDue s := by
  simp only [Bool.and_eq_true, Bool.not_eq_true', List.isEmpty_iff, List.all_eq_true] at h
  exact ⟨h.1.1.1.1, fun e he => h.1.1.1.2 e he, h.1.1.2, h.1.2, h.2⟩
/-- AudioFrameMovesTheState, SpeechSecondAndRemapTimerCheck: a room falling, a delegate speaking, a new room waiting for its
timer check, and a frame that its check has begun. -/
theorem witness_AudioFrame : NothingDue fading ∧ NothingDue talking ∧ NothingDue moved ∧ fading.ptu.affected ≠ [] ∧
    moved.flc.checksWaiting ≠ [] ∧ (after .remapTimerCheck moved).mxe.begun = true ∧
    (after .remapTimerCheck moved).flc.checksDue = [] :=
  ⟨nothingDue (by decide +kernel), nothingDue (by decide +kernel), nothingDue (by decide +kernel), by decide +kernel⟩
/-- AudioFrameMovesTheState, SpeechSecondAndRemapTimerCheck: what came due before a frame is taken before it, and so is a timer
check still due in a frame that has begun. -/
theorem witness_DueTaken : FloorLaws due ∧ (FloorLaws moved ∧ moved.dueTaken.flc.checksWaiting ≠ []) ∧
    due.mxe.begun = false ∧ due.dueTaken.flc.speakers.map (·.seconds) = [13] ∧ due.dueTaken.joins.head? = some .joined ∧
    (due.setBegun true).checksTaken.flc.checksDue = [] ∧
    after (.audioFrame []) due = after (.audioFrame []) due.dueTaken :=
  ⟨by constructor <;> decide +kernel, ⟨by constructor <;> decide +kernel, by decide +kernel⟩, by decide +kernel⟩
/-- CombinedCoefficientIsExact: at K, at 0, and without a contributor. -/
theorem witness_Coefficient : 0 < hall.ptu.k ∧ (hall.room 1).position = hall.ptu.k ∧ (fallen.room 1).position = 0 ∧
    (hall.contributors 1).length ≤ 1 := by decide +kernel
/-- OutputsFollowTheRecords: a PRIMARY, a SHADOW and a DORMANT channel, a live desk, present and absent seats. -/
theorem witness_Outputs : 1 ∈ hall.leads ∧ hall.role 1 = .primary ∧ joined.role 3 = .shadow 1 ∧ hall.role 24 = .dormant ∧
    onAir.liveDesk 1 = some 3 ∧ hall.liveDesk 1 = none ∧ hall.monitor 1 = .none ∧
    (hall.setMonitor 1 (.channel 1)).monitor 1 = .channel 1 ∧ (hall.seat 0).unit.isSome = true ∧ hall.seatActive 0 = true ∧
    (hall.seat 255).unit = none ∧ (hall.seat 3).set.booth = some 1 ∧ (hall.seat 7).set.booth = none := by decide +kernel
/-- SaturationIsRecorded: Case 8-6 saturates, an empty room does not. -/
theorem witness_Saturation : hall.mxe.rooms.map (·.lead) = hall.leads ∧ hall.mxe.channels.length = 24 ∧
    hall.relayTooDeep = false ∧ ¬8388607 < hall.floorBus [] 1 ∧ (hall.roomMix 1).clip.latch = false ∧
    (({ hall with mxe := { hall.mxe with rooms := hall.mxe.rooms.map fun m => { m with clip := ⟨true, 1⟩ } } } :
      State).roomMix 1).clip.latch = true := by decide +kernel

/-- LineAndSeatSettingsAreWritten: lines 3 and 4, seats 255 and 256, counts 24 and 25, a line that is down. -/
theorem witness_LineSettings : hall.slc.lines.length = 4 ∧ hall.slc.seats.length = 256 ∧ hall.seatActive 255 = true ∧
    lines.seatActive 255 = false ∧ ¬(24#8).toNat > 24 ∧ (25#8).toNat > 24 := by decide +kernel
/-- SeatPlaceActs: open, queued, at the placement already, at another; the last holder of its room, and one of two. -/
theorem witness_SeatPlace : hall.seatActive 0 = true ∧ (talking.speaker 0).isSome = true ∧ (talking.request 1).isSome = true ∧
    hall.speaker 0 = none ∧ hall.request 0 = none ∧ hall.placement 0 = some 1 ∧ 2 ∈ priority.flc.holders ∧
    (priority.holdersIn 1).filter (· != 2) = [] ∧
    ({ priority with flc := { priority.flc with holders := [2, 9] } }).flc.holders.filter (· != 2) = [9] ∧
    (sent (.seatPlace 1#8 [0#8, 2#8, 6#8]) { hall with flc := { emptyFlc with
      speakers := [{ newSpeaker 0 .delegate 4#40 .host with muted := true }], holders := [2] } }).ctp.notices =
      [.priorityOff 1 2] ∧
    lines.seatActive 255 = false ∧
    [0#8, 6#8, 7#8].map (fun g => code (.seatPlace 1#8 [0#8, 0#8, g]) hall) = [some 0#8, some 0#8, some 5#8] ∧
    [(0#8, 255#8), (1#8, 0#8)].map (fun n => code (.seatPlace 1#8 [n.1, n.2, 6#8]) hall) = [some 0#8, some 5#8] := by
  decide +kernel
/-- LineCommandsActByState, LineEventsAct: every state of a line; the tables whole; a microphone of the line that leaves. -/
theorem witness_LineStates : (hall.line 0).phase = .active ∧ (lines.line 1).phase = .waking .resume 1 ∧
    (lines.line 2).phase = .standby ∧ (lines.line 3).phase = .off ∧ (counting.line 0).phase = .census twoFound ∧
    (counting.line 1).phase.state = .fault ∧ (counting.line 2).phase = .waking .start 1 ∧
    [hall, lines, counting, talking].all (fun s => s.slc.lines.length == 4 && s.slc.seats.length == 256) = true ∧
    talking.lineActive 0 = true ∧ (talking.speaker 0).isSome = true := by decide +kernel
/-- LineEventsAct: a unit with three misses, and none; an estimate that differs; a refresh under way, and none. -/
theorem witness_LineEvents : ((hall.setSeat 63 fun x => { x with unit := some ⟨7#32, .delegate⟩, miss := 3 }).seat 63).miss =
      3 ∧ (∀ n ∈ seatsOfLine 0, (hall.seat n).unit = none ∨ (hall.seat n).miss < 3) ∧ (lines.line 2).unitCount = 8 ∧
    (lines.line 1).presenceChanged = false ∧ (lines.setLine 1 fun x => { x with presenceChanged := true }).slc.lines.length =
      4 ∧ ([0, 1, 2, 3].any fun m => hall.lineActive m && (hall.line m).refresh.isSome) = false ∧
    (let t := after (.indicatorRefresh ⟨[0, 63, 64], []⟩) hall;
      t.lineActive 0 = true ∧ [0, 1, 2, 3].map (fun m => (t.line m).refresh) = [some 0, some 63, none, none]) := by
  decide +kernel
/-- CensusWalksTheChain: before the first answer, after 63 units, and at the end. -/
theorem witness_Census : (counting.line 0).phase = .census twoFound ∧ twoFound.sense ≠ some true ∧
    ((after (.wakeEnd 2) counting).line 2).phase =
      .census { found := [], sense := none, before := (seatsOfLine 2).map fun _ => none } ∧
    counting.slc.seats.length = 256 ∧ (List.replicate 63 (⟨7#32, .desk⟩ : UnitInfo)).length < 64 := by decide +kernel
/-- SeatEventsAreRouted: a line in each group of states; an ABSENT, an UNKNOWN, an unplaced and a DESK seat; value 25. -/
theorem witness_SeatEvents : (lines.line 2).phase = .standby ∧ (lines.line 2).set.wakeOnPress = true ∧
    (lines.line 1).phase ≠ .active ∧ (lines.line 1).phase ≠ .standby ∧ (hall.seat 8).kind = none ∧
    (hall.seat 5).kind = some .unknown ∧ (hall.seat 4).kind = some .delegate ∧ hall.placement 4 = none ∧
    (hall.seat 3).kind = some .desk ∧ 24 < 25 := by decide +kernel

/-- LineEventsAct and OutputsFollowTheRecords, on what the records say: a delegate that speaks and one that does not, a request,
a desk of a booth and one of none, a flash; a booth with a source channel; reports without 256 holders. -/
theorem witness_Lamps : (hall.seat 0).kind = some .delegate ∧ (talking.speaker 0).isSome = true ∧ hall.speaker 0 = none ∧
    (talking.request 1).isSome = true ∧ (hall.seat 3).set.booth = some 1 ∧ (hall.seat 7).set.booth = none ∧
    (hall.seat 3).kind = some .desk ∧ ((after (.talk 4) hall).seat 4).flash.isSome = true := by decide +kernel
/-- ChannelSetupActs and BoothSetupActs, on what is derived: a PRIMARY, a SHADOW and a DORMANT channel, a source booth and none, a
relay graph without cycle. ReportCommandsAnswer: fewer than 256 holders. -/
theorem witness_Derived : hall.role 1 = .primary ∧ joined.role 3 = .shadow 1 ∧ hall.role 24 = .dormant ∧
    hall.inUse 3 = true ∧ hall.sourceBooth 1 = some 1 ∧ hall.sourceBooth 24 = none ∧ onAir.liveDesk 1 = some 3 ∧
    hall.relayCycle = false ∧ priority.flc.holders.length < 256 := by decide +kernel
/-- DeskAndListenEventsAct: a desk without a booth; a booth out of service, parked, idle and live; outputs; inputs; a relay
source, the booth's own channel, and a channel of another room. -/
theorem witness_Desk : SeatInService hall 3 .desk ∧ SeatInService hall 7 .desk ∧ (hall.seat 7).set.booth = none ∧
    (hall.seat 3).set.booth = some 1 ∧ hall.inService 1 = true ∧ hall.parked 1 = false ∧ hall.inService 3 = false ∧
    joined.parked 2 = true ∧ onAir.boothLive 1 = some 3 ∧ hall.boothLive 1 = none ∧ (hall.booth 1).interlock = .takeover ∧
    (hall.booth 2).interlock = .refuse ∧ hall.bOpen 1 = true ∧ hall.bOpen 2 = false ∧ hall.inUse 2 = true ∧
    hall.seatRoom 0 = some (hall.channelRoom 2) ∧ hall.inUse 24 = false ∧
    [0, 1, 2, 3].map (hall.relaySource 1) = [false, false, false, false] ∧ hall.relaySource 2 3 = false ∧
    (hall.setBooth 1 fun x => { x with b := 0 }).relaySource 1 2 = true :=
  ⟨inService (by decide +kernel), inService (by decide +kernel), by decide +kernel⟩
/-- ChannelSetupActs: channels 24 and 25, letters 41h, 5Ah and 5Bh; a booth's channel, a free one, and one that a new channel
1 of a lower home segment would shadow. -/
theorem witness_ChannelSetup :
    [0#8, 1#8, 24#8, 25#8].map (fun c => code (.channelSetup 1#8 [c, 1#8, 0x41#8, 0x5A#8, 0x41#8, 1#8]) hall) =
      [some 5#8, some 7#8, some 0#8, some 5#8] ∧ isLetter 0x41#8 = true ∧ isLetter 0x5A#8 = true ∧ isLetter 0x5B#8 = false ∧
    (hall.booth 1).enabled = true ∧ (hall.booth 1).a = 1 ∧ hall.channel 4 = factoryChannel ∧
    joined.inService 1 = true ∧ joined.role 1 = .primary ∧
    ((joined.setChannel 1 fun x => { x with enabled := false }).role 3) = .primary := by decide +kernel
/-- BoothSetupActs: a live desk; a channel of another booth; homes; a shadow; and a setup that passes. -/
theorem witness_BoothSetup : onAir.boothLive 1 = some 3 ∧ (onAir.seat 3).desk.live = true ∧
    hall.boothCode 3 ⟨true, 1, 1, 0, .refuse⟩ = some .channelTaken ∧
    hall.boothCode 1 ⟨true, 2, 1, 2, .refuse⟩ = some .homeMismatch ∧
    joined.boothCode 2 ⟨true, 2, 3, 0, .refuse⟩ = some .shadow ∧ hall.boothCode 1 ⟨true, 1, 2, 1, .refuse⟩ = none ∧
    boothFrom 1#8 6#8 24#8 0#8 1#8 = some ⟨true, 6, 24, 0, .takeover⟩ ∧ boothFrom 1#8 7#8 24#8 0#8 1#8 = none := by
  decide +kernel
/-- BoothSetupActs: a relay cycle. Desk 3 of booth 1 relays from channel 3, desk 7, assigned to booth 2 in the room joined
for the purpose, from channel 1. -/
theorem witness_RelayLoop :
    let s := ((hall.setSeat 7 fun x => { x with set := { x.set with booth := some 2 } }).setSeat 7 fun x =>
      { x with desk := { x.desk with input := 1 } }).setSeat 3 fun x => { x with desk := { x.desk with input := 3 } }
    s.relayCycle = true ∧ hall.relayCycle = false ∧ hall.relayTooDeep = false := by decide +kernel
/-- DeskAssignAndMonitorRouteAct: booths 0, 16 and 17, a live desk, a booth with no desk yet; monitors 0, 1, 2 and 3, segments
and channels at their ends; a PRIVATE source, a disabled channel. -/
theorem witness_DeskAssign : hall.seatActive 7 = true ∧ (hall.seat 7).set.booth ≠ some 2 ∧ (onAir.seat 3).desk.live = true ∧
    (hall.desksOf 2).length < 3 ∧ hall.privacy 6 = .open_ ∧
    (hall.setSegment 6 fun x => { x with privacy := .closed_ }).privacy 6 = .closed_ ∧ hall.inUse 24 = false ∧
    hall.inUse 3 = true ∧ lines.seatActive 255 = false ∧
    [0#8, 16#8, 17#8].map (fun b => code (.deskAssign 1#8 [0#8, 7#8, b]) hall) = [some 0#8, some 0#8, some 5#8] ∧
    [0#8, 1#8, 2#8, 3#8].map (fun m => code (.monitorRoute 1#8 [m, 0#8, 0#8]) hall) =
      [some 5#8, some 0#8, some 0#8, some 5#8] ∧
    [0#8, 1#8, 6#8, 7#8].map (fun g => code (.monitorRoute 1#8 [1#8, 1#8, g]) hall) =
      [some 5#8, some 0#8, some 0#8, some 5#8] ∧
    [0#8, 1#8, 24#8, 25#8].map (fun c => code (.monitorRoute 1#8 [1#8, 2#8, c]) hall) =
      [some 5#8, some 0#8, some 6#8, some 5#8] := by decide +kernel

/-- A property of every seat record, and of the one a missing seat reads as, holds of every seat. -/
theorem every_seat {s : State} {P : Seat → Prop} (h : ∀ x ∈ s.slc.seats, P x) (hd : P (startSeat factorySeat)) (n : Nat) :
    P (s.seat n) := by
  unfold State.seat
  rw [List.getD_eq_getElem?_getD]
  cases hx : s.slc.seats[n]? with
  | none => exact hd
  | some x => exact h x (List.mem_of_getElem? hx)

theorem hall_no_live (n : Nat) : (hall.seat n).desk.live = false :=
  every_seat (P := fun x => x.desk.live = false) (by decide +kernel) (by decide) n

theorem hall_output (n : Nat) : (hall.seat n).desk.output = .a :=
  every_seat (P := fun x => x.desk.output = .a) (by decide +kernel) (by decide) n

theorem every_wall {s : State} {P : Wall → Prop} (h : ∀ x ∈ s.ptu.walls, P x) (hd : P resetWall) (k : Nat) :
    P (s.wall k) := by
  unfold State.wall
  rw [List.getD_eq_getElem?_getD]
  cases hx : s.ptu.walls[k - 1]? with
  | none => exact hd
  | some x => exact h x (List.mem_of_getElem? hx)

theorem hall_split (k : Nat) : (hall.wall k).target = .split ∧ (hall.wall k).current = .split :=
  every_wall (P := fun w => w.target = .split ∧ w.current = .split) (by decide +kernel) (by decide) k

theorem factory_inRange : factorySettings.InRange where
  walls := by decide +kernel
  segments := by
    have h : ∀ g ∈ factorySettings.segments, g = factorySegment := by decide +kernel
    intro g hg
    rw [h g hg]
    exact ⟨by decide, by decide, by decide⟩
  fadeTime := by decide
  placements := by
    have h : ∀ y ∈ factorySettings.seats, y.placement = none := by decide +kernel
    intro y hy g hg
    rw [h y hy] at hg
    cases hg
  desks := by
    have h : ∀ y ∈ factorySettings.seats, y.booth = none := by decide +kernel
    intro y hy g hg
    rw [h y hy] at hg
    cases hg
  channels := by decide +kernel
  booths := by decide +kernel
  monitors := by
    have h : ∀ r ∈ factorySettings.monitors, r = Route.none := by decide +kernel
    intro r hr
    rw [h r hr]
    trivial
  mask := by decide
  width := by decide
  period := by decide

/-- EveryStepKeepsSizesAndRanges and the premises of the statements after it. -/
theorem witness_SettingsValid : SettingsValid hall where
  live := by
    have hp : ∀ y ∈ hall.snapshot.seats, ∀ g ∈ y.placement.toList ++ y.booth.toList, 1 ≤ g ∧ g ≤ 6 := by decide +kernel
    refine ⟨by decide +kernel, ?_, by decide +kernel, ?_, ?_, by decide +kernel, by decide +kernel, ?_, by decide +kernel,
      by decide +kernel, by decide +kernel⟩
    · have h : ∀ g ∈ hall.snapshot.segments, g = factorySegment := by decide +kernel
      intro g hg
      rw [h g hg]
      exact ⟨by decide, by decide, by decide⟩
    · intro y hy g hg
      exact hp y hy g (by simp [hg])
    · intro y hy g hg
      have := hp y hy g (by simp [hg])
      omega
    · have h : ∀ r ∈ hall.snapshot.monitors, r = Route.none := by decide +kernel
      intro r hr
      rw [h r hr]
      trivial
  image := factory_inRange
  saving := fun x hx => by cases hx

theorem hall_deskLaws : DeskLaws hall where
  tables :=
    { enabled := by decide +kernel
      distinct := by decide +kernel
      single := by
        have h : ∀ i ∈ List.range 16, ∀ j ∈ List.range 16, ∀ b ∈ hall.lgr.booths[i]?.toList,
            ∀ d ∈ hall.lgr.booths[j]?.toList, i ≠ j → b.enabled = true → d.enabled = true →
            ∀ c ∈ [b.a, b.b], c ≠ 0 → c ∉ [d.a, d.b] := by decide +kernel
        intro i j b d hb hd
        have hl : hall.lgr.booths.length = 16 := by decide +kernel
        have hi : i < 16 := hl ▸ (List.getElem?_eq_some_iff.mp hb).1
        have hj : j < 16 := hl ▸ (List.getElem?_eq_some_iff.mp hd).1
        exact h i (by simpa using hi) j (by simpa using hj) b (Option.mem_toList.mpr hb) d (Option.mem_toList.mpr hd) }
  image :=
    { enabled := by decide +kernel
      distinct := by decide +kernel
      single := by
        intro i j b d hb _ _ he
        have h : ∀ b ∈ factorySettings.booths, b.enabled = false := by decide +kernel
        rw [h b (List.mem_of_getElem? hb)] at he
        cases he }
  saving := fun x hx => by cases hx
  onAir := fun n b _ hl => by rw [hall_no_live] at hl; cases hl
  alone := fun n m b _ _ hl => by rw [hall_no_live] at hl; cases hl
  onB := fun n b _ _ ho => by rw [hall_output] at ho; cases ho

/-- Consistency reads the channel and booth tables alone. -/
theorem consistent_of {x y : Settings} (h : (x.channels, x.booths) = (y.channels, y.booths)) (hy : y.Consistent) :
    x.Consistent := by
  simp only [Prod.mk.injEq] at h
  exact ⟨by rw [h.1, h.2]; exact hy.enabled, by rw [h.2]; exact hy.distinct, by rw [h.2]; exact hy.single⟩

/-- EveryStepKeepsDesksAndRelay, and RemapAndFadeCompleteAct at a remap that is due. -/
theorem witness_DeskLaws : DeskLaws hall ∧ DeskLaws fallen := by
  have hs : fallen.slc = hall.slc := by decide +kernel
  have hseat : ∀ n, fallen.seat n = hall.seat n := fun n => by unfold State.seat; rw [hs]
  refine ⟨hall_deskLaws, ?_⟩
  exact
    { tables := consistent_of (by decide +kernel) hall_deskLaws.tables
      image := hall_deskLaws.image
      saving := fun x hx => by cases hx
      onAir := fun n b _ hl => by rw [hseat, hall_no_live] at hl; cases hl
      alone := fun n m b _ _ hl => by rw [hseat, hall_no_live] at hl; cases hl
      onB := fun n b _ _ ho => by rw [hseat, hall_output] at ho; cases ho }

/-- Only desk 3 is on air. -/
theorem onAir_live (n : Nat) (h : (onAir.seat n).desk.live = true) : n = 3 := by
  have hr : ∀ m ∈ List.range 256, (onAir.seat m).desk.live = true → m = 3 := by decide +kernel
  by_cases hn : n < 256
  · exact hr n (by simpa using hn) h
  · have hl : onAir.slc.seats.length = 256 := by decide +kernel
    rw [State.seat, List.getD_eq_getElem?_getD, List.getElem?_eq_none (by omega)] at h
    cases h

/-- DeskAndListenEventsAct, on a desk that goes live (`hall_deskLaws`) and one that goes off. -/
theorem witness_DeskProcedures : DeskLaws onAir ∧ (onAir.seat 3).set.booth = some 1 ∧ (onAir.seat 3).desk.live = true ∧
    onAir.inService 1 = true ∧ onAir.parked 1 = false ∧ onAir.slc.seats.length = 256 ∧ hall.boothLive 1 = none := by
  have ho : ∀ n, (onAir.seat n).desk.output = .a := fun n =>
    every_seat (P := fun x => x.desk.output = .a) (by decide +kernel) (by decide) n
  refine ⟨?_, by decide +kernel⟩
  exact
    { tables := consistent_of (by decide +kernel) hall_deskLaws.tables
      image := hall_deskLaws.image
      saving := fun x hx => by cases hx
      onAir := fun n b hb hl => by
        obtain rfl := onAir_live n hl
        obtain rfl : b = 1 := Option.some.inj (hb.symm.trans (by decide +kernel))
        decide +kernel
      alone := fun n m b _ _ hn hm => (onAir_live n hn).trans (onAir_live m hm).symm
      onB := fun n b _ _ h => by rw [ho] at h; cases h }

theorem witness_RelayLaws : RelayLaws hall := ⟨by decide +kernel, by decide +kernel⟩

/-- EveryStepKeepsDesksAndRelay: delegate 1 of S1 listens to channel 2 of S1. -/
theorem witness_ListenLaws : ListenLaws (hall.setSeat 1 fun x => { x with listen := 2 }) ∧
    ((hall.setSeat 1 fun x => { x with listen := 2 }).seat 1).listen = 2 := by
  refine ⟨fun n => ?_, by decide +kernel⟩
  have hr : ∀ m ∈ List.range 256, let s := hall.setSeat 1 fun x => { x with listen := 2 }
      let c := (s.seat m).listen
      c = 0 ∨ ((s.channel c).enabled = true ∧ 1 ≤ c ∧ c ≤ s.activeChannels ∧ s.seatRoom m = some (s.channelRoom c)) := by
    decide +kernel
  by_cases hn : n < 256
  · exact hr n (by simpa using hn)
  · have hl : (hall.setSeat 1 fun x => { x with listen := 2 }).slc.seats.length = 256 := by decide +kernel
    left
    rw [State.seat, List.getD_eq_getElem?_getD, List.getElem?_eq_none (by omega)]
    rfl

/-- EveryStepKeepsTheFades, at rest and in a fade-out. -/
theorem witness_FadeLaws : FadeLaws hall ∧ FadeLaws fading := by
  constructor <;> constructor <;> decide +kernel

/-- EveryStepKeepsTheFades, the marks: none standing, a settle's expiry, a remap that is due. -/
theorem witness_MarkLaws : MarkLaws hall ∧ MarkLaws marked ∧ MarkLaws fallen ∧ fallen.ptu.remapDue = true := by
  refine ⟨?_, ?_, ?_, by decide +kernel⟩ <;> constructor <;> decide +kernel

/-- EveryStepKeepsPrivacy. -/
theorem witness_PrivacyLaws : PrivacyLaws hall where
  targets := fun k h => by rw [(hall_split k).1] at h; cases h
  currents := fun k h => by rw [(hall_split k).2] at h; cases h
  monitors := by decide +kernel

/-- EveryStepKeepsSizesAndRanges: the outputs at 0. -/
theorem witness_AudioInRange : AudioInRange hall := by
  have h : silentAudio.InRange := by
    have hz : ∀ (n : Nat), ∀ x ∈ List.replicate n (0 : Int), inRange x := fun n x hx => by
      rw [List.eq_of_mem_replicate hx]
      exact ⟨by decide, by decide⟩
    have hn : ∀ (x : Int), some x ∈ List.replicate 256 (none : Option Int) → inRange x := fun x hx => by
      cases List.eq_of_mem_replicate hx
    exact ⟨hz 24, hz 6, hz 2, hn, hn, hn⟩
  exact ⟨h, h⟩

end Sys2Proof.Tests
end

section
/-! The floor procedures: what opening, closing, requesting, removing and refusing write, each said once, and the statement
that every path of the floor rests on. -/

namespace Sys2Proof.Proofs.FloorProcedures

open Sys2Proof.Machine

/-! ### Finding a seat's entry -/

/-- The first entry of a seat in a list that names the seat once is that entry, at the index found. -/
theorem getElem?_findIdx_of_unique {α : Type} {p : α → Bool} {l : List α} {x : α} (hx : x ∈ l) (hp : p x = true)
    (unique : ∀ y ∈ l, p y = true → y = x) : l[l.findIdx p]? = some x := by
  have hlt : l.findIdx p < l.length := List.findIdx_lt_length_of_exists ⟨x, hx, hp⟩
  rw [List.getElem?_eq_getElem hlt]
  exact congrArg some (unique _ (List.getElem_mem hlt) List.findIdx_getElem)

theorem mem_insertBefore {α : Type} {before : α → α → Bool} {x y : α} {l : List α} :
    y ∈ insertBefore before x l ↔ y = x ∨ y ∈ l := by
  induction l with
  | nil => simp [insertBefore]
  | cons z l ih =>
    unfold insertBefore
    split
    · simp
    · simp only [List.mem_cons, ih]; exact or_left_comm

theorem speaker_eq_none {s : State} {n : Nat} : s.speaker n = none ↔ ∀ e ∈ s.flc.speakers, e.seat ≠ n := by
  simp [State.speaker, List.find?_eq_none]

theorem request_eq_none {s : State} {n : Nat} : s.request n = none ↔ ∀ q ∈ s.flc.queue, q.seat ≠ n := by
  simp [State.request, List.find?_eq_none]

/-! ### Notices -/

/-- A notice of an enabled class joins the tail while a place is free (R192). -/
theorem notify_notices_of_room {c : Ctp} {m : Notice} (enabled : classEnabled c.mask m.cls = true)
    (room : c.notices.length < 56) : (c.notify m).notices = c.notices ++ [m] := by
  rcases c.notify_cases m with ⟨h, _⟩ | ⟨_, _, h⟩ | ⟨_, h, _⟩
  · rw [enabled] at h; cases h
  · rw [h, Ctp.addPulse_notices]
  · omega

/-- A notice takes nothing from the queue. -/
theorem notify_notices_append (c : Ctp) (m : Notice) : ∃ l, (c.notify m).notices = c.notices ++ l := by
  rcases c.notify_cases m with ⟨_, h⟩ | ⟨_, _, h⟩ | ⟨_, _, h⟩
  · exact ⟨[], by simp [h]⟩
  · exact ⟨[m], by simp [h]⟩
  · exact ⟨[], by simp [h]⟩

/-! ### Opening (R84, R117) -/

/-- No expiry at 0 s: the limit is above it or timing is off (R117). -/
theorem expiryHolds_of_fresh (limit : Nat) {e : Speaker} (hs : e.seconds = 0) (hx : e.extension = 0) :
    expiryHolds limit e = false := by
  simp [expiryHolds, allowance, hs, hx]

/-- The warning point at 0 s: timing is on and the lead covers the whole limit (R117). -/
theorem warningHolds_of_fresh (x : Template) {e : Speaker} (hs : e.seconds = 0) (hx : e.extension = 0) :
    warningHolds x e = decide (x.speechLimit ≠ 0 ∧ x.speechLimit ≤ x.warningLead) := by
  rw [Bool.eq_iff_iff]
  simp [warningHolds, warningPoint, allowance, hs, hx, Nat.sub_eq_zero_iff_le]

/-- The timer check of an entry just opened warns at most: it never closes the microphone again (R117, R118). -/
theorem timerCheck_of_fresh {s : State} {n : Nat} {e : Speaker} (he : s.speaker n = some e) (hs : e.seconds = 0)
    (hx : e.extension = 0) (hw : e.warned = false) :
    let x := s.settings (s.seatRoomCode n)
    s.timerCheck n false =
      if e.kind = .delegate ∧ x.speechLimit ≠ 0 ∧ x.speechLimit ≤ x.warningLead then
        (s.setSpeaker n fun y => { y with warned := true }).notify
          (.speechWarning n (s.seatRoomCode n) 0 x.speechLimit)
      else s := by
  intro x
  by_cases hk : e.kind = .delegate
  · simp [State.timerCheck, State.checkWarning, State.checkExpiry, he, hk, hw, hs, hx, allowance, x,
      warningHolds_of_fresh _ hs hx, expiryHolds_of_fresh _ hs hx]
  · simp [State.timerCheck, he, hk]

/-- Writing the entries of a seat that has one entry, at the tail, writes that entry. -/
theorem map_append_of_unnamed {l : List Speaker} {n : Nat} (f : Speaker → Speaker) {e : Speaker}
    (hl : ∀ x ∈ l, x.seat ≠ n) (he : e.seat = n) :
    (l ++ [e]).map (fun x => if x.seat == n then f x else x) = l ++ [f e] := by
  have hid : l.map (fun x => if x.seat == n then f x else x) = l :=
    (List.map_congr_left fun x hx => by simp [hl x hx]).trans (List.map_id l)
  rw [List.map_append, hid]
  simp [he]

/-- The new entry stands at the tail with MIC_OPENED sent, before its timer check (R84). -/
def entered (s : State) (n : Nat) (k : Kind) (o : OpenOrigin) : State :=
  ({ s with
    stamp := nextStamp s.stamp
    flc := { s.flc with speakers := s.flc.speakers ++ [newSpeaker n k (nextStamp s.stamp) o] } } : State).notify
    (.micOpened n (s.seatRoomCode n) k o)

theorem openMic_eq_timerCheck (s : State) (n : Nat) (k : Kind) (o : OpenOrigin) :
    s.openMic n k o = (entered s n k o).timerCheck n false := rfl

theorem entered_speaker {s : State} {n : Nat} (k : Kind) (o : OpenOrigin) (h : s.speaker n = none) :
    (entered s n k o).speaker n = some (newSpeaker n k (nextStamp s.stamp) o) := by
  show (s.flc.speakers ++ [newSpeaker n k (nextStamp s.stamp) o]).find? (fun e => e.seat == n) = _
  rw [List.find?_append, show s.flc.speakers.find? (fun e => e.seat == n) = none from h]
  simp [newSpeaker]

/-- Opening a microphone of a seat without an entry: a stamp, the entry at the tail, warned where R118 says so, MIC_OPENED and
at most SPEECH_WARNING; nothing else. -/
theorem openMic_eq {s : State} {n : Nat} (k : Kind) (o : OpenOrigin) (h : s.speaker n = none) :
    let lead := s.seatRoomCode n
    let told := s.ctp.notify (.micOpened n lead k o)
    s.openMic n k o = { s with
      stamp := nextStamp s.stamp
      flc := { s.flc with speakers := s.flc.speakers ++ [s.openedEntry n k o] }
      ctp := if (s.openedEntry n k o).warned then
          told.notify (.speechWarning n lead 0 (s.settings lead).speechLimit)
        else told } := by
  intro lead told
  rw [openMic_eq_timerCheck, timerCheck_of_fresh (entered_speaker k o h) rfl rfl rfl]
  show (if k = .delegate ∧ (s.settings lead).speechLimit ≠ 0 ∧
      (s.settings lead).speechLimit ≤ (s.settings lead).warningLead
    then ((entered s n k o).setSpeaker n _).notify (.speechWarning n lead 0 (s.settings lead).speechLimit)
    else entered s n k o) = _
  have unnamed := speaker_eq_none.mp h
  split
  next hw =>
    have he : { newSpeaker n k (nextStamp s.stamp) o with warned := true } = s.openedEntry n k o := by
      simp [State.openedEntry, lead, hw]
    rw [if_pos (by rw [← he]), ← he]
    simp only [State.setSpeaker, State.mapSpeakers, entered, State.notify,
      map_append_of_unnamed (fun y => { y with warned := true }) unnamed (e := newSpeaker n k (nextStamp s.stamp) o) rfl]
    rfl
  next hw =>
    have he : newSpeaker n k (nextStamp s.stamp) o = s.openedEntry n k o := by
      rw [State.openedEntry, decide_eq_false hw]; rfl
    rw [if_neg (by rw [← he]; simp [newSpeaker]), ← he]
    rfl

/-- MIC_OPENED is the first notice an open queues, where its class is enabled and a place is free (R84, R192). -/
theorem openMic_notices {s : State} {n : Nat} (k : Kind) (o : OpenOrigin) (h : s.speaker n = none)
    (enabled : s.ctp.mask.getLsbD 3 = true) (room : s.ctp.notices.length < 56) :
    ∃ l, (s.openMic n k o).ctp.notices = s.ctp.notices ++ .micOpened n (s.seatRoomCode n) k o :: l := by
  have told := notify_notices_of_room (m := .micOpened n (s.seatRoomCode n) k o)
    (show (_ || s.ctp.mask.getLsbD 3) = true by simp [enabled]) room
  rw [openMic_eq k o h]
  dsimp only
  split
  · obtain ⟨l, hl⟩ := notify_notices_append (s.ctp.notify (.micOpened n (s.seatRoomCode n) k o))
      (.speechWarning n (s.seatRoomCode n) 0 (s.settings (s.seatRoomCode n)).speechLimit)
    exact ⟨l, by rw [hl, told, List.append_assoc]; rfl⟩
  · exact ⟨[], told⟩

/-! ### Closing and refusing (R85, R87, R123) -/

/-- Closing an open microphone takes the entry off the list, counts its seconds and sends MIC_CLOSED (R85, R123). -/
theorem closeMic_eq {s : State} {n : Nat} {e : Speaker} (c : CloseCause) (h : s.speaker n = some e) :
    s.closeMic n c = { s with
      slc := (s.addTalk n e.seconds).slc
      flc := { s.flc with speakers := s.flc.speakers.filter fun x => x.seat != n }
      ctp := s.ctp.notify (.micClosed n (s.seatRoomCode n) e.kind c e.seconds) } := by
  simp only [State.closeMic, h]
  rfl

/-- A refused press sends MIC_REFUSED and starts the seat's flash (R87, R69). -/
theorem refusePress_eq (s : State) (n : Nat) (r : ResultCode) :
    s.refusePress n r =
      { s with slc := (s.flash n).slc, ctp := s.ctp.notify (.micRefused n (s.seatRoomCode n) r) } := rfl

/-- A write of seat n reads back there and nowhere else. -/
theorem setSeat_seat_same {s : State} {n : Nat} (f : Seat → Seat) (h : n < s.slc.seats.length) :
    (s.setSeat n f).seat n = f (s.seat n) := by simp [State.setSeat_seat, h]

theorem setSeat_seat_other (s : State) {n m : Nat} (f : Seat → Seat) (h : m ≠ n) :
    (s.setSeat n f).seat m = s.seat m := by simp [State.setSeat_seat, h]

/-! ### Requests (R86) -/

theorem removeRequest_eq {s : State} {n : Nat} {q : Request} (c : RemovalCause) (h : s.request n = some q) :
    s.removeRequest n c = { s with
      flc := { s.flc with queue := s.flc.queue.filter fun x => x.seat != n }
      ctp := s.ctp.notify (.requestRemoved n (s.seatRoomCode n) c) } := by
  simp only [State.removeRequest, h]
  rfl

/-- The queue with a request of seat n in its place (R80). -/
def queued (s : State) (n : Nat) (c : RequestClass) (x : Stamp) : State :=
  { s with flc := { s.flc with queue := insertBefore Request.before ⟨n, c, x⟩ s.flc.queue } }

/-- The place that REQUEST_ADDED names holds the new request, in the queue of the seat's room (R86). -/
theorem queued_place {s : State} {n lead : Nat} (c : RequestClass) (x : Stamp) (h : s.request n = none)
    (placed : s.seatRoom n = some lead) :
    ((queued s n c x).queueIn lead)[((queued s n c x).queueIn lead).findIdx fun q => q.seat == n]? = some ⟨n, c, x⟩ := by
  have unnamed := request_eq_none.mp h
  have mem : ∀ q, q ∈ (queued s n c x).queueIn lead ↔ (q = ⟨n, c, x⟩ ∨ q ∈ s.flc.queue) ∧ s.inRoom lead q.seat = true :=
    fun q => List.mem_filter.trans (and_congr_left' mem_insertBefore)
  refine getElem?_findIdx_of_unique ((mem _).mpr ⟨.inl rfl, ?_⟩) (by simp) fun q hq hn => ?_
  · simp [State.inRoom, placed]
  · obtain ⟨rfl | old, -⟩ := (mem q).mp hq
    · rfl
    · exact absurd (beq_iff_eq.mp hn) (unnamed q old)

/-! ### The statement -/

/-- Settles O38: each procedure by the equation that says what it writes; an open by the fact that its timer check only
warns, an added request by the place at which the room's queue holds it. -/
theorem floorProceduresAct : Obligations.FloorProceduresAct := by
  intro s n lead
  refine ⟨fun k o h => ?opens, fun e c h hn => ?closes, fun c x h placed => ?adds, fun q c h => removeRequest_eq c h,
    fun r hn => ?refuses⟩
  case opens =>
    have heq := openMic_eq k o h
    exact ⟨State.openMic_outsideFloor s n k o, by rw [heq], by rw [heq], by rw [heq], rfl, openMic_notices k o h⟩
  case closes =>
    have heq := closeMic_eq c h
    intro t
    have seat : ∀ m, t.seat m = (s.addTalk n e.seconds).seat m := fun m => by simp only [t, heq, State.seat]
    refine ⟨by simp only [t, lead, heq], by simp only [t, heq], by simp only [t, heq]; rfl, ?_, fun m hm => ?_⟩
    · exact (seat n).trans (setSeat_seat_same _ hn)
    · exact (seat m).trans (setSeat_seat_other s _ hm)
  case adds =>
    exact ⟨rfl, _, Nat.le_add_left 1 _, queued_place c x h placed, rfl⟩
  case refuses =>
    exact ⟨rfl, rfl, setSeat_seat_same _ hn, fun m hm => setSeat_seat_other s _ hm⟩

end Sys2Proof.Proofs.FloorProcedures
end

section
/-! The outputs of an audio frame: the primary that a SHADOW channel mirrors, and what each output reads. -/

namespace Sys2Proof.Proofs.Outputs

open Sys2Proof.Machine

/-! ### The primary of a group (R129) -/

/-- A fold that keeps the better of two, for a total order among equals, ends at a member that no member is better than. -/
theorem foldl_better_spec {α : Type} {better : α → α → Bool}
    (asymm : ∀ a b, better a b = true → better b a = false)
    (trans : ∀ a b c, better b a = false → better c b = false → better c a = false) (l : List α) (a : α) :
    let r := l.foldl (fun best d => if better d best then d else best) a
    r ∈ a :: l ∧ ∀ d ∈ a :: l, better d r = false := by
  have irrefl : ∀ x, better x x = false := fun x => by
    cases h : better x x with
    | false => rfl
    | true => exact h.symm.trans (asymm x x h)
  induction l generalizing a with
  | nil => exact ⟨List.mem_cons_self, fun d hd => by rw [List.mem_singleton.mp hd]; exact irrefl a⟩
  | cons x l ih =>
    intro r
    obtain ⟨mem, least⟩ := ih (if better x a then x else a)
    have first := least _ List.mem_cons_self
    have kept : (if better x a then x else a) ∈ [a, x] ∧ better a (if better x a then x else a) = false ∧
        better x (if better x a then x else a) = false := by
      cases hx : better x a with
      | true => exact ⟨List.mem_cons_of_mem _ List.mem_cons_self, asymm x a hx, irrefl x⟩
      | false => exact ⟨List.mem_cons_self, irrefl a, hx⟩
    obtain ⟨one, start, next⟩ := kept
    constructor
    · rcases List.mem_cons.mp mem with h | h
      · exact List.mem_append_left l ((show r = _ from h) ▸ one)
      · exact List.mem_cons_of_mem _ (List.mem_cons_of_mem _ h)
    · intro d hd
      rcases List.mem_cons.mp hd with rfl | hd
      · exact trans _ _ _ first start
      · rcases List.mem_cons.mp hd with rfl | hd
        · exact trans _ _ _ first next
        · exact least d (List.mem_cons_of_mem _ hd)

/-- The order of R129: the lower home segment, then the lower number. -/
theorem primaryBefore_iff (s : State) (c d : Nat) : s.primaryBefore c d = true ↔
    (s.channel c).home < (s.channel d).home ∨ ((s.channel c).home = (s.channel d).home ∧ c < d) := by
  simp only [State.primaryBefore, Bool.or_eq_true, Bool.and_eq_true, decide_eq_true_eq, beq_iff_eq]

theorem primaryBefore_eq_false (s : State) (c d : Nat) : s.primaryBefore c d = false ↔
    ¬((s.channel c).home < (s.channel d).home ∨ ((s.channel c).home = (s.channel d).home ∧ c < d)) := by
  rw [← primaryBefore_iff, Bool.not_eq_true]

theorem primaryBefore_asymm (s : State) (c d : Nat) (h : s.primaryBefore c d = true) : s.primaryBefore d c = false := by
  rw [primaryBefore_iff] at h
  rw [primaryBefore_eq_false]
  omega

theorem primaryBefore_trans (s : State) (c d e : Nat) (h : s.primaryBefore d c = false)
    (k : s.primaryBefore e d = false) : s.primaryBefore e c = false := by
  rw [primaryBefore_eq_false] at h k ⊢
  omega

/-- Two channels of which neither comes before the other are one. -/
theorem eq_of_not_primaryBefore {s : State} {c d : Nat} (h : s.primaryBefore c d = false)
    (k : s.primaryBefore d c = false) : c = d := by
  rw [primaryBefore_eq_false] at h k
  omega

theorem mem_channelNumbers {c : Nat} : c ∈ channelNumbers ↔ 1 ≤ c ∧ c ≤ 24 := by
  simp only [channelNumbers, List.mem_map, List.mem_range]
  exact ⟨by omega, fun h => ⟨c - 1, by omega, by omega⟩⟩

theorem sameGroup_iff (s : State) (c d : Nat) : s.sameGroup c d = true ↔ s.inUse c = true ∧ s.inUse d = true ∧
    s.channelRoom c = s.channelRoom d ∧ (s.channel c).tag = (s.channel d).tag := by
  simp [State.sameGroup, and_assoc]

theorem sameGroup_trans {s : State} {c d e : Nat} (h : s.sameGroup c d = true) (k : s.sameGroup d e = true) :
    s.sameGroup c e = true := by
  obtain ⟨hc, -, hroom, htag⟩ := (sameGroup_iff s c d).mp h
  obtain ⟨-, he, kroom, ktag⟩ := (sameGroup_iff s d e).mp k
  exact (sameGroup_iff s c e).mpr ⟨hc, he, hroom.trans kroom, htag.trans ktag⟩

/-- The primary of a channel is the channel itself or a channel of its group, and none of the group comes before it (R129). -/
theorem primaryOf_spec (s : State) (c : Nat) :
    (s.primaryOf c = c ∨ (s.primaryOf c ∈ channelNumbers ∧ s.sameGroup c (s.primaryOf c) = true)) ∧
      s.primaryBefore c (s.primaryOf c) = false ∧
      ∀ d ∈ channelNumbers, s.sameGroup c d = true → s.primaryBefore d (s.primaryOf c) = false := by
  obtain ⟨mem, least⟩ : s.primaryOf c ∈ c :: channelNumbers.filter (s.sameGroup c) ∧
      ∀ d ∈ c :: channelNumbers.filter (s.sameGroup c), s.primaryBefore d (s.primaryOf c) = false :=
    foldl_better_spec (primaryBefore_asymm s) (primaryBefore_trans s) _ c
  refine ⟨?_, least c List.mem_cons_self, fun d hd hg =>
    least d (List.mem_cons_of_mem _ (List.mem_filter.mpr ⟨hd, hg⟩))⟩
  rwa [List.mem_cons, List.mem_filter] at mem

/-- The primary of a group is its own primary: what comes first of its group comes first of c's. -/
theorem primaryOf_primaryOf (s : State) (c : Nat) : s.primaryOf (s.primaryOf c) = s.primaryOf c := by
  obtain ⟨self | ⟨-, group⟩, -, least⟩ := primaryOf_spec s c
  · rw [self, self]
  · obtain ⟨again | ⟨number, other⟩, before, -⟩ := primaryOf_spec s (s.primaryOf c)
    · exact again
    · exact eq_of_not_primaryBefore (least _ number (sameGroup_trans group other)) before

/-- The channel that a SHADOW names is a PRIMARY channel of its group (R129). -/
theorem role_shadow {s : State} {c p : Nat} (h : s.role c = .shadow p) :
    (1 ≤ p ∧ p ≤ 24) ∧ s.sameGroup c p = true ∧ s.role p = .primary := by
  have named : s.primaryOf c ≠ c ∧ s.primaryOf c = p := by
    unfold State.role at h
    split at h
    · cases h
    · split at h
      · cases h
      next hne => exact ⟨hne, Role.shadow.inj h⟩
  obtain ⟨hne, rfl⟩ := named
  obtain ⟨self | ⟨number, group⟩, -⟩ := primaryOf_spec s c
  · exact absurd self hne
  · obtain ⟨-, used, -⟩ := (sameGroup_iff s _ _).mp group
    exact ⟨mem_channelNumbers.mp number, group, by simp [State.role, used, primaryOf_primaryOf]⟩

/-! ### The buses (R163, R166) -/

/-- The bus of a room of the map is the room's own value, saturated (R166). -/
theorem busOutput_floorBuses {s : State} (samples : List Sample) {lead : Nat} (h : lead ∈ s.leads) :
    busOutput (s.floorBuses samples) lead = saturate (s.floorBus samples lead) := by
  have found : s.leads.find? (fun l => l == lead) = some lead := by
    cases hf : s.leads.find? (fun l => l == lead) with
    | none => exact absurd (beq_self_eq_true lead) (List.find?_eq_none.mp hf lead h)
    | some l =>
      have same : (l == lead) = true := List.find?_some (p := fun l => l == lead) hf
      rw [beq_iff_eq.mp same]
  have bus : (s.floorBuses samples).find? (fun b => b.1 == lead) = some (lead, s.floorBus samples lead) := by
    rw [State.floorBuses, List.find?_map]
    exact congrArg (Option.map _) found
  simp [busOutput, bus]

/-! ### Reading the outputs of a mix -/

section
variable (s : State) (samples : List Sample) (b : List (Nat × Int))

theorem mix_channel {c : Nat} (h1 : 1 ≤ c) (h24 : c ≤ 24) :
    (s.mix samples b).channels.getD (c - 1) 0 = s.channelOutput samples b c := by
  have hc : c - 1 < 24 := by omega
  simp [State.mix, channelNumbers, List.getD_eq_getElem?_getD, hc, Nat.sub_add_cancel h1]

theorem mix_pa {g : Nat} (h1 : 1 ≤ g) (h6 : g ≤ 6) :
    (s.mix samples b).pa.getD (g - 1) 0 = busOutput b (s.roomOf g) := by
  have numbers : segmentNumbers[g - 1]? = some g := by
    obtain rfl | rfl | rfl | rfl | rfl | rfl : g = 1 ∨ g = 2 ∨ g = 3 ∨ g = 4 ∨ g = 5 ∨ g = 6 := by omega
    all_goals rfl
  simp [State.mix, List.getD_eq_getElem?_getD, numbers]

theorem mix_monitor {m : Nat} (h : m = 1 ∨ m = 2) :
    (s.mix samples b).monitors.getD (m - 1) 0 = monitorFeed s b (s.mix samples b).channels (s.monitor m) := by
  rcases h with rfl | rfl <;> rfl

/-- A table made for every seat reads, at a seat's number, what is made for that seat. -/
theorem seatNumbers_map {α : Type} (f : Nat → α) {n : Nat} (h : n ≤ 255) : (seatNumbers.map f)[n]? = some (f n) := by
  have hn : n < 256 := by omega
  simp [seatNumbers, hn]

theorem mix_headphone {n : Nat} (h : n ≤ 255) :
    (s.mix samples b).headphones[n]? = some (s.headphone b (s.mix samples b).channels n) := seatNumbers_map _ h

theorem mix_loudspeaker {n : Nat} (h : n ≤ 255) :
    (s.mix samples b).loudspeakers[n]? = some (s.loudspeaker b n) := seatNumbers_map _ h

theorem mix_deskHeadphone {n : Nat} (h : n ≤ 255) :
    (s.mix samples b).deskHeadphones[n]? = some (s.deskHeadphone b (s.mix samples b).channels n) := seatNumbers_map _ h

end

/-! ### The channels (R168 to R170) -/

section
variable {s : State} {c : Nat} (samples : List Sample) (b : List (Nat × Int))

theorem channelOutput_dormant (h : s.role c = .dormant) : s.channelOutput samples b c = 0 := by
  simp [State.channelOutput, h]

theorem channelOutput_primary (h : s.role c = .primary) :
    s.channelOutput samples b c = saturate (s.primaryValue samples b c) := by simp [State.channelOutput, h]

/-- A SHADOW channel carries the output of its primary (R170). -/
theorem channelOutput_shadow {p : Nat} (h : s.role c = .shadow p) :
    s.channelOutput samples b c = s.channelOutput samples b p := by
  obtain ⟨-, -, primary⟩ := role_shadow h
  rw [channelOutput_primary samples b primary]
  simp [State.channelOutput, h]

theorem primaryValue_floor (h : s.liveDesk c = none) : s.primaryValue samples b c =
    scale (busOutput b (s.channelRoom c)) (s.roomMix (s.channelRoom c)).autoFloorGain.toNat := by
  simp [State.primaryValue, h]

theorem primaryValue_desk {n : Nat} (h : s.liveDesk c = some n) : s.primaryValue samples b c =
    scale (scale (samples.getD n 0#24).toInt (s.seat n).set.trim.toNat) (s.roomFade (s.channelRoom c)) := by
  simp [State.primaryValue, h, sampleOf]

end

/-! ### The feeds of seats (R73, R174, R175) -/

/-- The floor of a seat: its room's bus, 0 without a placement (R173, R174). -/
def seatFloor (s : State) (b : List (Nat × Int)) (n : Nat) : Int := ((s.seatRoom n).map (busOutput b)).getD 0

theorem seatFloor_eq (s : State) (b : List (Nat × Int)) (n : Nat) :
    seatFloor s b n = match s.placement n with
      | some g => busOutput b (s.roomOf g)
      | none => 0 := by
  unfold seatFloor State.seatRoom
  cases s.placement n <;> rfl

theorem carried_iff (s : State) (n : Nat) :
    s.carried n = true ↔ (s.seat n).unit.isSome = true ∧ s.seatActive n = true := by
  simp [State.carried]

section
variable {s : State} {n : Nat} (b : List (Nat × Int)) (channels : List Int)

theorem feeds_of_not_carried (h : s.carried n = false) :
    s.headphone b channels n = none ∧ s.loudspeaker b n = none ∧ s.deskHeadphone b channels n = none := by
  simp [State.headphone, State.loudspeaker, State.deskHeadphone, h]

theorem headphone_of_carried (h : s.carried n = true) : s.headphone b channels n =
    some (if (s.seat n).listen = 0 then seatFloor s b n else channels.getD ((s.seat n).listen - 1) 0) := by
  rw [State.headphone, if_neg (by simp [h])]
  split <;> rfl

theorem loudspeaker_of_carried (h : s.carried n = true) :
    s.loudspeaker b n = some (if (s.speaker n).isSome then 0 else seatFloor s b n) := by
  rw [State.loudspeaker, State.loudspeakerMuted, if_neg (by simp [h])]
  split <;> rfl

theorem deskHeadphone_of_booth (h : s.carried n = true) (kind : (s.seat n).kind = some .desk) {d : Nat}
    (booth : (s.seat n).set.booth = some d) : s.deskHeadphone b channels n =
      some (if (s.seat n).desk.input = 0 then busOutput b (s.boothRoom d)
        else channels.getD ((s.seat n).desk.input - 1) 0) := by
  rw [State.deskHeadphone, if_neg (by simp [h, kind])]
  simp only [booth]
  split <;> rfl

theorem deskHeadphone_of_no_desk (h : (s.seat n).kind ≠ some .desk ∨ (s.seat n).set.booth = none) :
    s.deskHeadphone b channels n = none := by
  rcases h with h | h <;> simp [State.deskHeadphone, h]

end

/-! ### The statement -/

/-- Settles O49: each output read from the mix, and then by the equation of that output. The statement's `clamp` and `round`
are `saturate` and `scale` with their constants in numerals. -/
theorem outputsFollowTheRecords : Obligations.OutputsFollowTheRecords := by
  intro s samples b out clamp round y channel
  refine ⟨fun lead h => busOutput_floorBuses samples h, fun c h1 h24 => ⟨?dormant, ?shadow, ?floor, ?desk⟩,
    fun g h1 h6 => mix_pa s samples b h1 h6, fun m hm => ?monitors, fun n hn => ?seats⟩
  case dormant =>
    exact fun h => (mix_channel s samples b h1 h24).trans (channelOutput_dormant samples b h)
  case shadow =>
    intro p h
    obtain ⟨⟨p1, p24⟩, group, primary⟩ := role_shadow h
    exact ⟨primary, group, (mix_channel s samples b h1 h24).trans
      ((channelOutput_shadow samples b h).trans (mix_channel s samples b p1 p24).symm)⟩
  case floor =>
    intro h live
    exact (mix_channel s samples b h1 h24).trans
      ((channelOutput_primary samples b h).trans (congrArg saturate (primaryValue_floor samples b live)))
  case desk =>
    intro n h live
    exact (mix_channel s samples b h1 h24).trans
      ((channelOutput_primary samples b h).trans (congrArg saturate (primaryValue_desk samples b live)))
  case monitors =>
    have feed : out.monitors.getD (m - 1) 0 = monitorFeed s b out.channels (s.monitor m) := mix_monitor s samples b hm
    exact ⟨fun h => by rw [feed, h]; rfl, fun g h => by rw [feed, h]; rfl, fun x h => by rw [feed, h]; rfl⟩
  case seats =>
    intro floor present listen select
    have hfloor : seatFloor s b n = floor := seatFloor_eq s b n
    have head := mix_headphone s samples b hn
    have loud := mix_loudspeaker s samples b hn
    have desk := mix_deskHeadphone s samples b hn
    constructor
    · intro absent
      obtain ⟨h, l, d⟩ := feeds_of_not_carried b out.channels
        (Bool.eq_false_iff.mpr fun h => absent ((carried_iff s n).mp h))
      exact ⟨head.trans (congrArg some h), loud.trans (congrArg some l), desk.trans (congrArg some d)⟩
    · intro here
      have carried := (carried_iff s n).mpr here
      rw [← hfloor]
      exact ⟨head.trans (congrArg some (headphone_of_carried b _ carried)),
        loud.trans (congrArg some (loudspeaker_of_carried b carried)),
        fun kind d booth => desk.trans (congrArg some (deskHeadphone_of_booth b _ carried kind booth)),
        fun h => desk.trans (congrArg some (deskHeadphone_of_no_desk b _ h))⟩

end Sys2Proof.Proofs.Outputs
end
